-- ==== Sys2Proof/Word.lean ====
section
/-! DEFINITION. The number and index types of the NVS-4120 model, the fixed tables it keeps its records in, and the
plain arithmetic of the manual's conventions (spec/00_scope.md, section 5). -/

namespace Sys2Proof

/-- One byte of a control frame, a payload or the start-up image; also one DMX512 slot value. -/
abbrev Byte := BitVec 8
/-- A frame number: a value of the 32-bit frame counter, which wraps (R9). -/
abbrev Frame := BitVec 32
/-- A control port, 0-3. -/
abbrev Port := Fin 4
/-- A source port, 0-3. -/
abbrev SourceNo := Fin 4
/-- A wall link, 0-3. -/
abbrev LinkNo := Fin 4
/-- A transition set, 0-3. -/
abbrev SetNo := Fin 4
/-- A cue stack, 0-7. -/
abbrev StackNo := Fin 8
/-- A lighting line, 0-7. -/
abbrev LineNo := Fin 8
/-- A lighting channel, 0-1023. -/
abbrev ChannelNo := Fin 1024
/-- A window, 0-31. -/
abbrev WindowNo := Fin 32
/-- A channel group, 0-15. -/
abbrev GroupNo := Fin 16
/-- A tally line, 0-15. -/
abbrev TallyNo := Fin 16
/-- A claim table id, 0-63. -/
abbrev ClaimId := Fin 64
/-- A set of ports as a bit mask: bit n stands for port n (R191). -/
abbrev PortSet := BitVec 4
/-- A set of groups: bit n stands for group n (R191). -/
abbrev GroupSet := BitVec 16
/-- A set of windows: bit n stands for window n (R191). -/
abbrev WindowSet := BitVec 32

/-- `x` replaced by the nearest end of `lo..hi` when it lies outside (spec/00_scope.md 5.2). -/
def clampNat (lo hi x : Nat) : Nat := if x < lo then lo else if hi < x then hi else x

/-- `x` replaced by the nearest end of `lo..hi` when it lies outside, for signed quantities. -/
def clampInt (lo hi x : Int) : Int := if x < lo then lo else if hi < x then hi else x

/-- One more, holding at `cap` once `cap` is reached (the counts of R59, R85, R105, R171, R182). -/
def satSucc (cap n : Nat) : Nat := if n < cap then n + 1 else cap

/-- Frame `f` is past at counter value `c`: (c - f) mod 2^32 is less than 2^31 (R9). -/
def Frame.isPast (f c : Frame) : Bool := decide ((c - f).toNat < 2 ^ 31)

/-- A table of `n` records, record `i` being `f i`. -/
def tab {n : Nat} {α : Type} (f : Fin n → α) : Vector α n := ⟨⟨(List.finRange n).map f⟩, by simp⟩

@[simp] theorem tab_getElem {n : Nat} {α : Type} (f : Fin n → α) (i : Nat) (h : i < n) :
    (tab f)[i] = f ⟨i, h⟩ := by simp [tab]

/-- The table with record `i` passed through `f` and every other record kept. -/
def updAt {n : Nat} {α : Type} (v : Vector α n) (i : Fin n) (f : α → α) : Vector α n := v.set i (f v[i])

@[simp] theorem updAt_getElem {n : Nat} {α : Type} (v : Vector α n) (i : Fin n) (f : α → α) (j : Nat) (h : j < n) :
    (updAt v i f)[j] = if i.val = j then f v[i] else v[j] := by
  simp [updAt, Vector.getElem_set]

theorem updAt_getElem_self {n : Nat} {α : Type} (v : Vector α n) (i : Fin n) (f : α → α) :
    (updAt v i f)[i.val] = f v[i] := by simp

theorem updAt_getElem_ne {n : Nat} {α : Type} (v : Vector α n) (i j : Fin n) (f : α → α) (h : i ≠ j) :
    (updAt v i f)[j.val] = v[j.val] := by
  have : i.val ≠ j.val := fun e => h (Fin.ext e)
  simp [this]

/-- Every record of a table passed through `f`. -/
def mapTab {n : Nat} {α β : Type} (f : α → β) (v : Vector α n) : Vector β n := tab fun i => f v[i]

@[simp] theorem mapTab_getElem {n : Nat} {α β : Type} (f : α → β) (v : Vector α n) (j : Nat) (h : j < n) :
    (mapTab f v)[j] = f v[j] := by simp [mapTab]

/-- The list in an order that `pref` chooses: each number of `pref` in turn takes the element at that place (modulo
the length) of what is left; a list of fewer than two elements, and what is left when `pref` is used up, stands as it
is. Every order is reached by some `pref`. -/
def arrange {α : Type} : List Nat → List α → List α
  | [], l => l
  | _, [] => []
  | _, [a] => [a]
  | p :: ps, a :: b :: l =>
    match (a :: b :: l)[p % (l.length + 2)]? with
    | some x => x :: arrange ps ((a :: b :: l).eraseIdx (p % (l.length + 2)))
    | none => a :: b :: l

end Sys2Proof
end

