-- ==== Sys2Proof/Config.lean ====
section
/-! DEFINITION. What the manual leaves open: free values, constants with no body, so that every claim holds whatever
they are. -/

namespace Sys2Proof

/-- The order in which alerts of one kind that several units raise at one instant reach the ports; the manual gives
none, and the set keeps the latest detail (R182). Applied to `State.choices` (DESIGN CHOICE, log entry 8). -/
opaque Config.alertOrder : Nat → List Nat

/-- Whether DEFER_APPLIED names cause SHOT (true) or GUARD (false) when its last entry's item has left the shot AND
its guard is no longer DEFER: R168 gives both words and no choice (DESIGN CHOICE, log entry 15). Applied to the frame
counter. -/
opaque Config.deferCauseShot : Frame → Bool

end Sys2Proof
end

