-- ==== Sys2Proof/Syntax.lean ====
section
/-! DEFINITION. The commands of the NVS-4120: one constructor of `Instr` per row of spec/opcode_table.json, with the
operands the spec's words give it. The part fetches nothing: its commands are events on its pins and line drivers, and
the requests its control ports take. -/

namespace Sys2Proof

/-- One pixel of a source frame: 8-bit R, G, B and the 8-bit key plane (spec/03_wall_mapper.md 3.1). -/
structure Pixel where
  r : Byte
  g : Byte
  b : Byte
  key : Byte
  deriving DecidableEq, Repr, Inhabited

/-- A source frame with the raster size it declares; pixels row by row from the top, each row from the left. -/
structure SourceFrame where
  width : Nat
  height : Nat
  pixels : List Pixel
  deriving DecidableEq, Repr, Inhabited

/-- What a frame event takes from outside beside its cause: the level of the 16 tally inputs at its FRAME (R157), and
the order in which a MARK that it issues first (R5) takes its unordered steps (R97; DESIGN CHOICE, log entry 7). -/
structure FrameIn where
  tally : BitVec 16
  order : List Nat
  deriving DecidableEq, Repr, Inhabited

/-- What produces a frame event: the local clock at its expiry (R4), or a reference pulse at `elapsed` ticks after the
last frame event (R3). A tick is a third of a microsecond (DESIGN CHOICE, log entry 5). -/
inductive FrameCause where
  | clock
  | pulse (elapsed : Nat)
  deriving DecidableEq, Repr, Inhabited

/-- A frame event as it comes from outside: its cause and its inputs. -/
structure FrameEvent where
  cause : FrameCause
  inputs : FrameIn
  deriving DecidableEq, Repr, Inhabited

/-- A request received whole on a control port: the port, its tag and its payload bytes. The request code is the
command's own (spec/12_formats.md 12.2). -/
structure Request where
  port : Port
  tag : Byte
  payload : List Byte
  deriving DecidableEq, Repr, Inhabited

/-- The commands of the part, one constructor per row of spec/opcode_table.json, in the table's order.

Rows that name something which happens at a FRAME carry the frame event, and rows that name something which happens at
a MARK carry the MARK's order (DESIGN CHOICE, log entry 3). Rows that name a request carry the request: for the ten
READ rows the payload is what follows the record kind byte, and for STORE_CUE_HEADER it is the stack and what follows
the cue number. -/
inductive Instr where
  | hardReset (emergency : Bool)
  | referencePulse (elapsed : Nat) (inputs : FrameIn)
  | localClockExpiry (inputs : FrameIn)
  | absorptionWindowClose
  | mark (order : List Nat)
  | takeSwap (ev : FrameEvent)
  | transitionEnd (ev : FrameEvent)
  | sourceHoldExpiry (ev : FrameEvent) (src : SourceNo)
  | sourceFrameComplete (src : SourceNo) (frame : SourceFrame)
  | sourceFrameDiscard (src : SourceNo)
  | scanEnd
  | levelsReady
  | packetEnd (line : LineNo)
  | autoYield (ev : FrameEvent) (id : ClaimId)
  | handoverExpiry (ev : FrameEvent) (id : ClaimId)
  | chainedGo (order : List Nat) (stack : StackNo)
  | waitExpiry (order : List Nat) (stack : StackNo)
  | repeatIntervalExpiry (order : List Nat) (stack : StackNo)
  | armTarget (order : List Nat) (stack : StackNo)
  | takeoverGrant (order : List Nat)
  | deferApply (order : List Nat)
  | emergencyInputChange (asserted : Bool)
  | frameReceived (port : Port) (body : List Byte) (crc : BitVec 16)
  | gap (port : Port)
  | framing (port : Port)
  | lineBreak (port : Port)
  | transmitEnd (port : Port)
  | alertNotice (port : Port)
  | overrunReply (port : Port)
  | portRateChange (port : Port)
  | saveCompletion
  | saveVerifyFailure
  | saveTimeout
  | unknownRequest (code : Byte) (r : Request)
  | readStatus (r : Request)
  | readChannel (r : Request)
  | readWindow (r : Request)
  | readClaim (r : Request)
  | readStack (r : Request)
  | readCue (r : Request)
  | readLine (r : Request)
  | readSource (r : Request)
  | readQueue (r : Request)
  | readOverride (r : Request)
  | readAlerts (r : Request)
  | clearClip (r : Request)
  | setLevel (r : Request)
  | setLevelsShort (r : Request)
  | setWindow (r : Request)
  | setFill (r : Request)
  | setMaster (r : Request)
  | take (r : Request)
  | copy (r : Request)
  | storeCue (r : Request)
  | storeCueHeader (r : Request)
  | deleteCue (r : Request)
  | setStack (r : Request)
  | go (r : Request)
  | arm (r : Request)
  | halt (r : Request)
  | resetStack (r : Request)
  | releaseLevel (r : Request)
  | claim (r : Request)
  | unclaim (r : Request)
  | ask (r : Request)
  | yieldClaim (r : Request)
  | dropClaim (r : Request)
  | setRole (r : Request)
  | setPage (r : Request)
  | setShotMap (r : Request)
  | setGuard (r : Request)
  | setPatch (r : Request)
  | setLine (r : Request)
  | setWallLink (r : Request)
  | setSource (r : Request)
  | setTransition (r : Request)
  | setRoute (r : Request)
  | setTiming (r : Request)
  | setFrame (r : Request)
  | setSafety (r : Request)
  | lock (r : Request)
  | saveImage (r : Request)
  | showReset (r : Request)
  | byteCompleted (port : Port) (byte : Byte)
  deriving DecidableEq, Repr, Inhabited

end Sys2Proof
end

