-- ==== Sys2Proof/Machine/State.lean ====
section
/-! DEFINITION. The state of the NVS-4120, block by block as spec/00_scope.md section 2 cuts the part, and the state
after reset. Every record is plain data. What a chapter derives from other state (the show mask, safety in force, the
ALERT lines, the free pools, a stack's owner) is not stored: Machine/Ops.lean and Machine/Flags.lean compute it. -/

namespace Sys2Proof.Machine

/-! ### Reference Unit (spec/01_reference_timing.md) -/

/-- Lock state (R1). -/
inductive LockState where
  | locked
  | free
  deriving DecidableEq, Repr, Inhabited

/-- The four frame rates (R1, section 1.2). -/
inductive Rate where
  | r25
  | r2997
  | r50
  | r5994
  deriving DecidableEq, Repr, Inhabited

/-- Frame origin (R1). -/
inductive Origin where
  | pulse
  | clock
  deriving DecidableEq, Repr, Inhabited

/-- The state of the Reference Unit (R1). Instants are ticks of a third of a microsecond on the unit's time base. -/
structure RefUnit where
  /-- The frame counter. -/
  counter : Frame
  lock : LockState
  /-- Flywheel count 0-3, used in LOCKED. -/
  flywheel : Nat
  /-- Lead count 0-2, used in FREE. -/
  lead : Nat
  /-- The configured frame rate. -/
  rate : Rate
  /-- The rate the current frame began with (R2). -/
  frameRate : Rate
  origin : Origin
  /-- The absorption window of the current frame is OPEN. -/
  windowOpen : Bool
  /-- The due instant of the MARK while OWED; none once ISSUED. -/
  markDue : Option Nat
  /-- The instant of the last frame event. -/
  lastEvent : Nat
  /-- The instant at which the local clock next issues a frame event. -/
  expiry : Nat
  deriving DecidableEq, Repr, Inhabited

/-! ### Scene Memory (spec/02_scene_banks.md) -/

/-- The physical banks (2.1). -/
inductive BankName where
  | a
  | b
  deriving DecidableEq, Repr, Inhabited

/-- The bank roles (R14). -/
inductive BankRole where
  | program
  | preset
  deriving DecidableEq, Repr, Inhabited

/-- Fade and transition curves (R13, R42). -/
inductive Curve where
  | linear
  | soft
  deriving DecidableEq, Repr, Inhabited

/-- A colour, each component 0-255 (R12, R13). -/
structure RGB where
  r : Nat
  g : Nat
  b : Nat
  deriving DecidableEq, Repr, Inhabited

/-- A window's SOURCE: a source port, or FLAT (R12). -/
inductive Source where
  | port (p : SourceNo)
  | flat
  deriving DecidableEq, Repr, Inhabited

/-- A window's PLANE (R12). -/
inductive Plane where
  | picture
  | key
  deriving DecidableEq, Repr, Inhabited

/-- A window record: all nine field groups (R12). -/
structure WindowRec where
  enabled : Bool
  x0 : Nat
  y0 : Nat
  x1 : Nat
  y1 : Nat
  source : Source
  plane : Plane
  dx : Int
  dy : Int
  mirrorX : Bool
  mirrorY : Bool
  brightness : Nat
  layer : Fin 32
  flat : RGB
  deriving DecidableEq, Repr, Inhabited

/-- The nine field groups of a window record, in the order of R12 (numbered 0-8 in spec/12_formats.md 12.3). -/
inductive FieldGroup where
  | enable
  | rect
  | source
  | plane
  | offset
  | orient
  | brightness
  | layer
  | flat
  deriving DecidableEq, Repr, Inhabited

/-- The values of one field group, as a write, an override or a deferred entry carries them. -/
inductive FieldValue where
  | enable (on : Bool)
  | rect (x0 y0 x1 y1 : Nat)
  | source (s : Source)
  | plane (p : Plane)
  | offset (dx dy : Int)
  | orient (mirrorX mirrorY : Bool)
  | brightness (b : Nat)
  | layer (l : Fin 32)
  | flat (c : RGB)
  deriving DecidableEq, Repr, Inhabited

/-- A channel record of a bank (R13). -/
structure ChannelRec where
  level : Nat
  fade : Nat
  curve : Curve
  deriving DecidableEq, Repr, Inhabited

/-- A bank: 32 window records, the fill colour and 1024 channel records (R12, R13). -/
structure Bank where
  windows : Vector WindowRec 32
  fill : RGB
  channels : Vector ChannelRec 1024
  deriving DecidableEq, Repr, Inhabited

/-- What the context holds while a transition is in flight (R24). -/
structure Running where
  set : SetNo
  /-- N, the duration. -/
  frames : Nat
  curve : Curve
  /-- k, the progress count. -/
  k : Nat
  outgoing : BankName
  hurry : Bool
  deriving DecidableEq, Repr, Inhabited

/-- The transition context (R24): idle, pending (take-pending with its set) or running (in flight). Take-pending and
in-flight are never both set, and N and k read 0 when idle. -/
inductive Transition where
  | idle
  | pending (set : SetNo)
  | running (r : Running)
  deriving DecidableEq, Repr, Inhabited

/-- The state of the Scene Memory (R14, R24). -/
structure SceneMemory where
  bankA : Bank
  bankB : Bank
  /-- The physical bank that is PROGRAM; the other is PRESET. -/
  program : BankName
  trans : Transition
  deriving DecidableEq, Repr, Inhabited

/-! ### Wall Mapper (spec/03_wall_mapper.md) -/

/-- Source port states (R33). -/
inductive SourceState where
  | absent
  | locked
  | holding
  | lost
  deriving DecidableEq, Repr, Inhabited

/-- A source port (R33). -/
structure SourcePort where
  state : SourceState
  holdCount : Nat
  holdLimit : Nat
  held : Option SourceFrame
  arrived : Option SourceFrame
  deriving DecidableEq, Repr, Inhabited

/-- A transition set (R42). -/
structure TransitionSet where
  duration : Nat
  curve : Curve
  deriving DecidableEq, Repr, Inhabited

/-- A wall link record (R45). -/
structure WallLink where
  x : Nat
  y : Nat
  width : Nat
  height : Nat
  brightness : Nat
  enabled : Bool
  deriving DecidableEq, Repr, Inhabited

/-- One picture that the Wall Mapper composes: its effective window records and its bank's fill colour (R38). -/
structure Picture where
  windows : Vector WindowRec 32
  fill : RGB
  deriving DecidableEq, Repr, Inhabited

/-- What the scan of a frame took at its FRAME (R46): kept while the scan runs, so that no later write reaches it. -/
structure ScanRecord where
  /-- The number of the frame scanned. -/
  frame : Frame
  sources : Vector SourcePort 4
  /-- The new picture, from the program bank. -/
  new : Picture
  /-- The outgoing picture with the weight w of the incoming one, while a transition is in flight (R43, R44). -/
  mix : Option (Picture × Nat)
  /-- The safety wall brightness when safety was in force at the FRAME (R48). -/
  safetyWall : Option Nat
  links : Vector WallLink 4
  /-- Whether the scan is measured (R51). -/
  measured : Bool
  deriving DecidableEq, Repr, Inhabited

/-- The state of the Wall Mapper (R33, R42, R45, R52). -/
structure WallMapper where
  sources : Vector SourcePort 4
  sets : Vector TransitionSet 4
  links : Vector WallLink 4
  /-- The 32 filtered window luminances, 0-4080. -/
  lum : Vector Nat 32
  /-- The 32 pixel counts of the last measured scan. -/
  count : Vector Nat 32
  /-- The scan under way, or none. -/
  scan : Option ScanRecord
  deriving DecidableEq, Repr, Inhabited

/-! ### Level Engine (spec/04_the_level_engine.md) -/

/-- Output curves (R54). -/
inductive OutCurve where
  | linear
  | square
  deriving DecidableEq, Repr, Inhabited

/-- A patch record (R54). -/
structure PatchRec where
  /-- none: unpatched. -/
  line : Option LineNo
  slot : Nat
  width : Nat
  fineFirst : Bool
  curve : OutCurve
  limit : Nat
  group : GroupNo
  follow : Option WindowNo
  gain : Int
  reference : Nat
  /-- none: the safety level is absent. -/
  safety : Option Nat
  deriving DecidableEq, Repr, Inhabited

/-- The source of a channel's level (R62, R63). -/
inductive LevelSource where
  | bank
  | override (level : Nat)
  | safety
  deriving DecidableEq, Repr, Inhabited

/-- A fade context: S, T, N, k, curve, source and b (R63). -/
structure FadeContext where
  start : Nat
  target : Nat
  frames : Nat
  k : Nat
  curve : Curve
  source : LevelSource
  base : Nat
  deriving DecidableEq, Repr, Inhabited

/-- A channel's last output O and whether its stage 4 saturated (R61). -/
structure ChannelResult where
  out : Nat
  saturated : Bool
  deriving DecidableEq, Repr, Inhabited

/-- The item of an override entry (R120). -/
inductive OverrideItem where
  /-- A channel with its level and the entry's fade. -/
  | channel (n : ChannelNo) (value fade : Nat)
  /-- One field group of a window with its values. -/
  | window (w : WindowNo) (value : FieldValue)
  deriving DecidableEq, Repr, Inhabited

/-- An override entry: level 5-7, item with value, and origin stack (R120). -/
structure Override where
  level : Nat
  item : OverrideItem
  origin : StackNo
  deriving DecidableEq, Repr, Inhabited

/-- What computation N took at FRAME N (R60): kept until its levels-ready. The fade contexts are not copied: they
change only at levels-ready (R66). -/
structure Computation where
  frame : Frame
  channels : Vector ChannelRec 1024
  overrides : List Override
  safety : Bool
  safetyFade : Nat
  releaseFade : Nat
  masters : Vector Nat 16
  patch : Vector PatchRec 1024
  lum : Vector Nat 32
  deriving DecidableEq, Repr, Inhabited

/-- The state of the Level Engine (R54, R58, R59, R63, R74). -/
structure LevelEngine where
  patch : Vector PatchRec 1024
  masters : Vector Nat 16
  /-- Clip flags: bit g for group g. -/
  clipFlags : GroupSet
  clipCounts : Vector Nat 16
  contexts : Vector FadeContext 1024
  results : Vector ChannelResult 1024
  releaseFade : Nat
  /-- The computation under way, or none. -/
  comp : Option Computation
  deriving DecidableEq, Repr, Inhabited

/-! ### Line Drivers (spec/05_lighting_lines.md) -/

/-- The in-flight copy of a line (R78, R81). -/
structure InFlight where
  frame : Frame
  slots : Nat
  breakLen : Nat
  values : List Byte
  deriving DecidableEq, Repr, Inhabited

/-- A waiting computation: its frame number and slot image (R78). -/
structure Waiting where
  frame : Frame
  image : List Byte
  deriving DecidableEq, Repr, Inhabited

/-- A lighting line: its record and its driver state (R78). SENDING is the state in which an in-flight copy is held. -/
structure Line where
  enabled : Bool
  slots : Nat
  /-- Break length in microseconds. -/
  breakLen : Nat
  /-- some: SENDING; none: IDLE. -/
  inFlight : Option InFlight
  lastPacket : Option Frame
  waiting : Option Waiting
  skips : Nat
  skipArmed : Bool
  deriving DecidableEq, Repr, Inhabited

/-! ### Cue Unit (spec/06_cue_stacks.md) -/

/-- Cue triggers (R89). -/
inductive Trigger where
  | go
  | auto
  deriving DecidableEq, Repr, Inhabited

/-- Loop markers (R89); the loop count is held for every marker (spec/12_formats.md 12.6). -/
inductive LoopMarker where
  | none
  | loopStart
  | loopEnd
  deriving DecidableEq, Repr, Inhabited

/-- Cue actions with their fields (R90). -/
inductive Action where
  | level (bank : BankRole) (first last : ChannelNo) (level fade : Nat)
  | window (bank : BankRole) (w : WindowNo) (value : FieldValue)
  | master (g : GroupNo) (value : Nat)
  | take (set : SetNo)
  | copy
  | goStack (target : StackNo)
  deriving DecidableEq, Repr, Inhabited

/-- A cue record's contents, all but its stack and number (R89). -/
structure CueBody where
  trigger : Trigger
  wait : Nat
  repeats : Nat
  interval : Nat
  marker : LoopMarker
  loopCount : Nat
  release : Bool
  releaseFade : Nat
  actions : List Action
  deriving DecidableEq, Repr, Inhabited

/-- A cue record in use (R89). -/
structure Cue where
  stack : StackNo
  number : Nat
  body : CueBody
  deriving DecidableEq, Repr, Inhabited

/-- Stack states with their counts (R94). -/
inductive StackState where
  | idle
  | waiting (remaining : Nat)
  | repeating (repeats interval : Nat)
  | armed (target : Frame) (grace : Nat)
  | ended
  deriving DecidableEq, Repr, Inhabited

/-- An active loop context (R94). -/
structure LoopContext where
  startCue : Nat
  remaining : Nat
  deriving DecidableEq, Repr, Inhabited

/-- A stack record (R94). Its owner is read from the claim table. -/
structure StackRec where
  level : Nat
  /-- The cue number at which the stack stands; none: END. -/
  position : Option Nat
  state : StackState
  /-- none: inactive. -/
  loop : Option LoopContext
  chainedGo : Bool
  pendingGo : Bool
  skipped : Nat
  deriving DecidableEq, Repr, Inhabited

/-- The state of the Cue Unit (R88, R94) with the late grace default (R101). -/
structure CueUnit where
  /-- The cue records in use, in ascending stack and then ascending cue number. -/
  store : List Cue
  recs : Vector StackRec 8
  lateGrace : Nat
  deriving DecidableEq, Repr, Inhabited

/-! ### Takeover Unit (spec/07_takeover_and_safety.md) -/

/-- An entry of the preemption stack (R114). -/
inductive PreEntry where
  | level (level : Nat) (stack : StackNo)
  | safety
  deriving DecidableEq, Repr, Inhabited

/-- The state of the Takeover Unit (R114). The show mask and safety in force are derived. -/
structure TakeoverUnit where
  /-- Bottom to top. -/
  stack : List PreEntry
  overrides : List Override
  latch : Bool
  /-- The emergency input is asserted. -/
  emergency : Bool
  safetyFade : Nat
  safetyWall : Nat
  deriving DecidableEq, Repr, Inhabited

/-! ### Access Unit (spec/08_roles_claims_and_handover.md) -/

/-- Port roles (R135). -/
inductive PortRole where
  | engineering
  | operator
  deriving DecidableEq, Repr, Inhabited

/-- Kind and range of a claim (R141). -/
inductive ClaimRange where
  | channels (first last : ChannelNo)
  | windows (set : WindowSet)
  | group (g : GroupNo)
  | stack (k : StackNo)
  deriving DecidableEq, Repr, Inhabited

/-- The waiting port and expiry frame of a CONTESTED claim (R141). -/
structure Contest where
  waiting : Port
  expiry : Frame
  deriving DecidableEq, Repr, Inhabited

/-- A claim table entry in use (R141). -/
structure Claim where
  owner : Port
  range : ClaimRange
  autoYield : Bool
  /-- none: HELD; some: CONTESTED. -/
  contest : Option Contest
  deriving DecidableEq, Repr, Inhabited

/-- The state of the Access Unit (R135, R138, R139, R141, R154). -/
structure AccessUnit where
  roles : Vector PortRole 4
  pages : Vector (Fin 4) 4
  patchLock : Bool
  shotLock : Bool
  /-- none: the entry is free. -/
  claims : Vector (Option Claim) 64
  timeout : Nat
  deriving DecidableEq, Repr, Inhabited

/-! ### Tally Unit (spec/09_shot_protection.md) -/

/-- Guard modes (R160). -/
inductive Guard where
  | openMode
  | alert
  | defer
  | refuse
  deriving DecidableEq, Repr, Inhabited

/-- A shot map entry (R158). -/
structure ShotEntry where
  windows : WindowSet
  groups : GroupSet
  deriving DecidableEq, Repr, Inhabited

/-- One item of a write to a physical bank or a master, with its values: what a request or an action writes, and what a
deferred entry holds (R161, R164). A channel's fade and curve are present when the write carried them. -/
inductive ItemWrite where
  | channel (bank : BankName) (n : ChannelNo) (level : Nat) (fade : Option Nat) (curve : Option Curve)
  | window (bank : BankName) (w : WindowNo) (value : FieldValue)
  | master (g : GroupNo) (value : Nat)
  deriving DecidableEq, Repr, Inhabited

/-- Who wrote: a port or a stack (R163, R164). -/
inductive Writer where
  | port (p : Port)
  | stack (k : StackNo)
  deriving DecidableEq, Repr, Inhabited

/-- An entry of the deferred queue (R164). -/
structure Deferred where
  write : ItemWrite
  origin : Writer
  deriving DecidableEq, Repr, Inhabited

/-- The state of the Tally Unit (R157 to R160, R164). -/
structure TallyUnit where
  /-- Bit n: tally line n is ACTIVE. -/
  lines : BitVec 16
  shotMap : Vector ShotEntry 16
  windowGuards : Vector Guard 32
  groupGuards : Vector Guard 16
  inShotWindows : WindowSet
  inShotGroups : GroupSet
  /-- Oldest first. -/
  queue : List Deferred
  deriving DecidableEq, Repr, Inhabited

/-! ### Port Controller (spec/10_control_ports_and_alerts.md) -/

/-- Line rates of the control ports (R171). -/
inductive LineRate where
  | r115200
  | r460800
  | r1000000
  | r3000000
  deriving DecidableEq, Repr, Inhabited

/-- Reasons of a skipped action (R105). -/
inductive SkipReason where
  | denied
  | guarded
  | bankBusy
  | queueFull
  | overrideFull
  deriving DecidableEq, Repr, Inhabited

/-- The item of a GUARD_ALERT (R163). -/
inductive GuardedItem where
  | window (w : WindowNo)
  | channel (n : ChannelNo)
  | master (g : GroupNo)
  deriving DecidableEq, Repr, Inhabited

/-- What a guarded write wrote (R163). -/
inductive WriteKind where
  | bank
  | master
  | override
  deriving DecidableEq, Repr, Inhabited

/-- The target of a deferred entry (R164). -/
inductive DeferTarget where
  | channel (n : ChannelNo)
  | window (w : WindowNo) (f : FieldGroup)
  | master (g : GroupNo)
  deriving DecidableEq, Repr, Inhabited

/-- Why a deferred entry was applied (R168). -/
inductive DeferCause where
  | shot
  | guard
  | preset
  deriving DecidableEq, Repr, Inhabited

/-- Causes of TAKEOVER_CHANGE (R134). -/
inductive TakeoverCause where
  | pushed
  | accepted
  | released
  | reset
  deriving DecidableEq, Repr, Inhabited

/-- Causes of HANDOVER_GRANTED (R156). -/
inductive GrantCause where
  | yielded
  | unclaimed
  | auto
  deriving DecidableEq, Repr, Inhabited

/-- Causes of HANDOVER_TIMEOUT (R156). -/
inductive TimeoutCause where
  | expired
  | dropped
  | reset
  deriving DecidableEq, Repr, Inhabited

/-- Causes of IMAGE_FAIL (R188). -/
inductive ImageFailCause where
  | verify
  | timeout
  deriving DecidableEq, Repr, Inhabited

/-- The twenty-one kinds of alert (R181), each with the detail that its chapter gives. -/
inductive Alert where
  | refLost (frame : Frame)
  | refRegained (frame : Frame)
  | sourceHold (p : SourceNo) (frame : Frame)
  | sourceLost (p : SourceNo) (frame : Frame)
  | sourceBack (p : SourceNo) (frame : Frame)
  | clipped (groups : GroupSet) (frame : Frame)
  | actionSkipped (stack : StackNo) (cue place : Nat) (reason : SkipReason) (frame : Frame)
  | guardAlert (item : GuardedItem) (guard : Guard) (writer : Writer) (kind : WriteKind) (frame : Frame)
  | deferApplied (count : Nat) (target : DeferTarget) (bank : Option BankName) (cause : DeferCause) (frame : Frame)
  | cueLate (stack : StackNo) (cue : Nat) (target late frame : Frame)
  | cueExpired (stack : StackNo) (cue : Nat) (target late frame : Frame)
  | nestedLoop (stack : StackNo) (cue startCue : Nat) (frame : Frame)
  | overrideFull (stack : StackNo) (cue needed free : Nat) (frame : Frame)
  | handoverAsk (id : ClaimId) (asking : Port) (expiry frame : Frame)
  | handoverGranted (id : ClaimId) (previous : Port) (cause : GrantCause) (frame : Frame)
  | handoverTimeout (id : ClaimId) (cause : TimeoutCause) (frame : Frame)
  | takeoverChange (cause : TakeoverCause) (holder : Option (Nat × StackNo)) (mask : Nat) (frame : Frame)
  | safetyChange (inForce emergency latch : Bool) (frame : Frame)
  | lineSkip (line : LineNo) (skipped : Frame) (count : Nat)
  | imageDone (accepted completed : Frame)
  | imageFail (accepted failed : Frame) (cause : ImageFailCause)
  deriving DecidableEq, Repr, Inhabited

/-- The reply codes (R177, R192). -/
inductive ReplyCode where
  | ok
  | pending
  | doneEarly
  | late
  | deferred
  | guarded
  | denied
  | conflict
  | contested
  | busy
  | atEnd
  | notFound
  | range
  | format
  | role
  | locked
  | noSpace
  | queueFull
  | overrun
  | lastEngineer
  | suspended
  | notContested
  deriving DecidableEq, Repr, Inhabited

/-- A kind's entry in an alert set: its latest detail and its occurrence count 1-255 (R171, R182). -/
structure AlertEntry where
  alert : Alert
  count : Nat
  deriving DecidableEq, Repr, Inhabited

/-- A request waiting in a port's queue (R171). -/
structure Queued where
  code : Byte
  tag : Byte
  payload : List Byte
  deriving DecidableEq, Repr, Inhabited

/-- An owed OVERRUN reply (R171). -/
structure Overrun where
  code : Byte
  tag : Byte
  frame : Frame
  deriving DecidableEq, Repr, Inhabited

/-- The receiver of a port with its frame in assembly (R171, R173). -/
inductive Receiver where
  | hunt
  /-- LENGTH, with the first length byte once received. -/
  | length (first : Option Byte)
  /-- BODY, expecting `len` bytes. -/
  | body (len : Nat) (got : List Byte)
  /-- CHECK, with the whole body and the first CRC byte once received. -/
  | check (body : List Byte) (first : Option Byte)
  deriving DecidableEq, Repr, Inhabited

/-- A frame that a transmitter sends: a reply with its data, an OVERRUN reply, or an ALERT notice with the set of alert
kinds (bit n for kind n) (R176, R183, R192). -/
inductive TxFrame where
  | reply (code tag : Byte) (result : ReplyCode) (frame : Frame) (data : List Byte)
  | overrun (code tag : Byte) (frame : Frame)
  | notice (frame : Frame) (kinds : BitVec 24)
  deriving DecidableEq, Repr, Inhabited

/-- A pending rate and the port whose SET_TIMING reply has still to be sent in full, if it has (R172). -/
structure PendingRate where
  rate : LineRate
  waitsFor : Option Port
  deriving DecidableEq, Repr, Inhabited

/-- The seven error counts of a port (R171). -/
structure ErrorCounts where
  stray : Nat
  framing : Nat
  gap : Nat
  length : Nat
  crc : Nat
  overrun : Nat
  breaks : Nat
  deriving DecidableEq, Repr, Inhabited

/-- The state of one control port (R171). The ALERT line is active exactly while the alert set is not empty. -/
structure PortState where
  rate : LineRate
  pendingRate : Option PendingRate
  receiver : Receiver
  /-- Oldest first. -/
  queue : List Queued
  /-- Oldest first. -/
  overruns : List Overrun
  /-- none: IDLE; some: SENDING that frame. -/
  tx : Option TxFrame
  noticeOwed : Bool
  pushFlag : Bool
  /-- The alert set, by kind number 0-21 (spec/12_formats.md 12.5). -/
  alerts : Vector (Option AlertEntry) 22
  errors : ErrorCounts
  deriving DecidableEq, Repr, Inhabited

/-- The state of the Port Controller: four ports and the routing table of the sixteen kinds that can be routed, in
ascending kind number (R171, R179). -/
structure PortController where
  port : Vector PortState 4
  routing : Vector PortSet 16
  deriving DecidableEq, Repr, Inhabited

/-! ### Image Store (spec/11_start_up_image.md) -/

/-- The timing values of the image (R185). -/
structure TimingValues where
  rate : Rate
  lateGrace : Nat
  timeout : Nat
  safetyFade : Nat
  safetyWall : Nat
  deriving DecidableEq, Repr, Inhabited

/-- The body of the image, in the order of R185. -/
structure ImageBody where
  patch : Vector PatchRec 1024
  shotMap : Vector ShotEntry 16
  windowGuards : Vector Guard 32
  groupGuards : Vector Guard 16
  routing : Vector PortSet 16
  /-- Enabled, slot count and break length of each line. -/
  lines : Vector (Bool × Nat × Nat) 8
  links : Vector WallLink 4
  holdLimits : Vector Nat 4
  sets : Vector TransitionSet 4
  timing : TimingValues
  roles : Vector PortRole 4
  rates : Vector LineRate 4
  bankA : Bank
  bankB : Bank
  program : BankName
  store : List Cue
  levels : Vector Nat 8
  deriving DecidableEq, Repr, Inhabited

/-- A save in progress: requesting port, frame counter at acceptance and the snapshot being written (R185, R187). -/
structure Saving where
  port : Port
  frame : Frame
  snapshot : ImageBody
  deriving DecidableEq, Repr, Inhabited

/-- The state of the Image Store (R185). -/
structure ImageStore where
  /-- The bytes of the stored image, header first; none while no whole image stands (erased, or a write begun and not
  completed, R187 to R189; DEDUCED, log entry 17). -/
  stored : Option (List Byte)
  /-- Image state VALID. -/
  valid : Bool
  /-- Load result LOADED. -/
  loaded : Bool
  /-- none: save state IDLE; some: WRITING. -/
  saving : Option Saving
  deriving DecidableEq, Repr, Inhabited

/-- The reasons a step can stop with a fault. The manual gives every event and request of the part an effect, so there
is none. -/
inductive Fault where
  deriving DecidableEq, Repr

/-- The reasons a step can be refused. -/
inductive Refusal where
  /-- Raised by exec's arm of a command that has no meaning yet (no arm is left so). Safe: the machine stops. -/
  | notModelled (mnemonic : String)
  deriving DecidableEq, Repr

/-- The state of the part. -/
structure State where
  ref : RefUnit
  scene : SceneMemory
  wall : WallMapper
  level : LevelEngine
  lines : Vector Line 8
  cue : CueUnit
  takeover : TakeoverUnit
  access : AccessUnit
  tally : TallyUnit
  ports : PortController
  image : ImageStore
  /-- The MODEL's own counter: how many free orders have been drawn (DESIGN CHOICE, log entry 8). -/
  choices : Nat
  /-- The commands that wait, first in, first out. -/
  pending : List Instr
  deriving DecidableEq, Repr

/-! ### Default records and the state after reset -/

/-- Ticks per second: a tick is a third of a microsecond, in which every period and half period of section 1.2 is
whole (DESIGN CHOICE, log entry 5). -/
def ticksPerSecond : Nat := 3000000

/-- The period P of a rate in ticks (spec/01_reference_timing.md 1.2): 40 ms, 1001/30000 s, 20 ms, 1001/60000 s. -/
def Rate.period : Rate → Nat
  | .r25 => 120000
  | .r2997 => 100100
  | .r50 => 60000
  | .r5994 => 50050

/-- P/2 in ticks. -/
def Rate.half : Rate → Nat
  | .r25 => 60000
  | .r2997 => 50050
  | .r50 => 30000
  | .r5994 => 25025

/-- Black. -/
def RGB.black : RGB := ⟨0, 0, 0⟩

/-- The default window record (R15). -/
def WindowRec.blank : WindowRec :=
  { enabled := false, x0 := 0, y0 := 0, x1 := 0, y1 := 0, source := .port 0, plane := .picture, dx := 0, dy := 0,
    mirrorX := false, mirrorY := false, brightness := 256, layer := 0, flat := .black }

/-- The default bank (R15). -/
def Bank.blank : Bank :=
  { windows := Vector.replicate 32 .blank, fill := .black, channels := Vector.replicate 1024 ⟨0, 0, .linear⟩ }

/-- The default patch record (R54). -/
def PatchRec.blank : PatchRec :=
  { line := none, slot := 1, width := 1, fineFirst := false, curve := .linear, limit := 65535, group := 0,
    follow := none, gain := 0, reference := 0, safety := none }

/-- The fade context after hard reset (R63). -/
def FadeContext.rest : FadeContext :=
  { start := 0, target := 0, frames := 0, k := 0, curve := .linear, source := .bank, base := 0 }

/-- The default wall link record (R45). -/
def WallLink.blank : WallLink := ⟨0, 0, 7680, 2160, 256, false⟩

/-- A line after hard reset with the given record (R78, R87). -/
def Line.start (enabled : Bool) (slots breakLen : Nat) : Line :=
  { enabled, slots, breakLen, inFlight := none, lastPacket := none, waiting := none, skips := 0, skipArmed := true }

/-- A source port after hard reset with the given hold limit (R33). -/
def SourcePort.start (holdLimit : Nat) : SourcePort := ⟨.absent, 0, holdLimit, none, none⟩

/-- A stack of an empty list after reset (R94). -/
def StackRec.start (level : Nat) : StackRec := ⟨level, none, .ended, none, false, false, 0⟩

/-- A control port after hard reset at the given line rate (R171). -/
def PortState.start (rate : LineRate) : PortState :=
  { rate, pendingRate := none, receiver := .hunt, queue := [], overruns := [], tx := none, noticeOwed := false,
    pushFlag := false, alerts := Vector.replicate 22 none, errors := ⟨0, 0, 0, 0, 0, 0, 0⟩ }

/-- The defaults that every block takes when the image is bad (R186). -/
def ImageBody.defaults : ImageBody :=
  { patch := Vector.replicate 1024 .blank
    shotMap := Vector.replicate 16 ⟨0, 0⟩
    windowGuards := Vector.replicate 32 .openMode
    groupGuards := Vector.replicate 16 .openMode
    routing := Vector.replicate 16 1
    lines := Vector.replicate 8 (false, 512, 176)
    links := Vector.replicate 4 .blank
    holdLimits := Vector.replicate 4 25
    sets := #v[⟨1, .linear⟩, ⟨25, .linear⟩, ⟨25, .linear⟩, ⟨25, .linear⟩]
    timing := ⟨.r50, 2, 250, 0, 128⟩
    roles := #v[.engineering, .operator, .operator, .operator]
    rates := Vector.replicate 4 .r115200
    bankA := .blank
    bankB := .blank
    program := .a
    store := []
    levels := Vector.replicate 8 1 }

/-- The part right after its first hard reset: no good image stored, so every block has its defaults (R186), and the
emergency input clear (DESIGN CHOICE, log entry 9). The queue of commands is empty. -/
def State.reset : State :=
  { ref :=
      { counter := 0, lock := .free, flywheel := 0, lead := 0, rate := .r50, frameRate := .r50, origin := .clock,
        windowOpen := true, markDue := none, lastEvent := 0, expiry := 60000 }
    scene := { bankA := .blank, bankB := .blank, program := .a, trans := .idle }
    wall :=
      { sources := Vector.replicate 4 (.start 25)
        sets := #v[⟨1, .linear⟩, ⟨25, .linear⟩, ⟨25, .linear⟩, ⟨25, .linear⟩]
        links := Vector.replicate 4 .blank
        lum := Vector.replicate 32 0
        count := Vector.replicate 32 0
        scan := none }
    level :=
      { patch := Vector.replicate 1024 .blank
        masters := Vector.replicate 16 256
        clipFlags := 0
        clipCounts := Vector.replicate 16 0
        contexts := Vector.replicate 1024 .rest
        results := Vector.replicate 1024 ⟨0, false⟩
        releaseFade := 0
        comp := none }
    lines := Vector.replicate 8 (.start false 512 176)
    cue := { store := [], recs := Vector.replicate 8 (.start 1), lateGrace := 2 }
    takeover := { stack := [], overrides := [], latch := false, emergency := false, safetyFade := 0, safetyWall := 128 }
    access :=
      { roles := #v[.engineering, .operator, .operator, .operator]
        pages := Vector.replicate 4 0
        patchLock := false
        shotLock := false
        claims := Vector.replicate 64 none
        timeout := 250 }
    tally :=
      { lines := 0
        shotMap := Vector.replicate 16 ⟨0, 0⟩
        windowGuards := Vector.replicate 32 .openMode
        groupGuards := Vector.replicate 16 .openMode
        inShotWindows := 0
        inShotGroups := 0
        queue := [] }
    ports := { port := Vector.replicate 4 (.start .r115200), routing := Vector.replicate 16 1 }
    image := { stored := none, valid := false, loaded := false, saving := none }
    choices := 0
    pending := [] }

end Sys2Proof.Machine
end

