-- ==== Sys2Proof/Machine/Ops.lean ====
section
/-! DEFINITION. The named operations over the state that several blocks share: banks by role, field groups, the show
mask, the override in force, the claim table read by item, and a stack's owner. -/

namespace Sys2Proof.Machine

/-! ### Banks -/

/-- The other physical bank. -/
def BankName.other : BankName → BankName
  | .a => .b
  | .b => .a

/-- The bank of a physical name. -/
def SceneMemory.bank (m : SceneMemory) : BankName → Bank
  | .a => m.bankA
  | .b => m.bankB

/-- The Scene Memory with the named bank passed through `f`. -/
def SceneMemory.modBank (m : SceneMemory) (n : BankName) (f : Bank → Bank) : SceneMemory :=
  match n with
  | .a => { m with bankA := f m.bankA }
  | .b => { m with bankB := f m.bankB }

/-- The physical bank that holds a role at this instant (R17). -/
def SceneMemory.resolve (m : SceneMemory) : BankRole → BankName
  | .program => m.program
  | .preset => m.program.other

/-- A transition is in flight (R24). -/
def SceneMemory.inFlight (m : SceneMemory) : Bool :=
  match m.trans with
  | .running _ => true
  | _ => false

/-- The field group that a value belongs to (R12). -/
def FieldValue.group : FieldValue → FieldGroup
  | .enable _ => .enable
  | .rect _ _ _ _ => .rect
  | .source _ => .source
  | .plane _ => .plane
  | .offset _ _ => .offset
  | .orient _ _ => .orient
  | .brightness _ => .brightness
  | .layer _ => .layer
  | .flat _ => .flat

/-- The number of a field group, 0-8 (spec/12_formats.md 12.3). -/
def FieldGroup.number : FieldGroup → Nat
  | .enable => 0
  | .rect => 1
  | .source => 2
  | .plane => 3
  | .offset => 4
  | .orient => 5
  | .brightness => 6
  | .layer => 7
  | .flat => 8

/-- The nine field groups in the order of R12. -/
def FieldGroup.all : List FieldGroup :=
  [.enable, .rect, .source, .plane, .offset, .orient, .brightness, .layer, .flat]

/-- A window record with one field group written whole (R12). -/
def WindowRec.write (r : WindowRec) : FieldValue → WindowRec
  | .enable on => { r with enabled := on }
  | .rect x0 y0 x1 y1 => { r with x0 := x0, y0 := y0, x1 := x1, y1 := y1 }
  | .source v => { r with source := v }
  | .plane p => { r with plane := p }
  | .offset dx dy => { r with dx := dx, dy := dy }
  | .orient mx my => { r with mirrorX := mx, mirrorY := my }
  | .brightness b => { r with brightness := b }
  | .layer l => { r with layer := l }
  | .flat c => { r with flat := c }

/-- The values of one field group of a window record. -/
def WindowRec.read (r : WindowRec) : FieldGroup → FieldValue
  | .enable => .enable r.enabled
  | .rect => .rect r.x0 r.y0 r.x1 r.y1
  | .source => .source r.source
  | .plane => .plane r.plane
  | .offset => .offset r.dx r.dy
  | .orient => .orient r.mirrorX r.mirrorY
  | .brightness => .brightness r.brightness
  | .layer => .layer r.layer
  | .flat => .flat r.flat

/-- A field group's values brought into range as R18 brings a SET_WINDOW into range: coordinates clamped to the canvas
and then exchanged where the first exceeds the second, offsets clamped, brightness clamped to 256. -/
def FieldValue.clamp : FieldValue → FieldValue
  | .rect x0 y0 x1 y1 =>
    let x0' := clampNat 0 7679 x0
    let x1' := clampNat 0 7679 x1
    let y0' := clampNat 0 2159 y0
    let y1' := clampNat 0 2159 y1
    .rect (min x0' x1') (min y0' y1') (max x0' x1') (max y0' y1')
  | .offset dx dy => .offset (clampInt (-16384) 16383 dx) (clampInt (-16384) 16383 dy)
  | .brightness b => .brightness (clampNat 0 256 b)
  | v => v

/-! ### The preemption stack and the override table -/

/-- Safety is in force while the emergency input is asserted or the safety latch is set (R114). -/
def TakeoverUnit.inForce (t : TakeoverUnit) : Bool := t.emergency || t.latch

/-- The level of a preemption entry; SAFETY stands at level 8 (R114). -/
def PreEntry.rank : PreEntry → Nat
  | .level l _ => l
  | .safety => 8

/-- The show mask: the level of the top entry, or 0 (R115). -/
def TakeoverUnit.mask (t : TakeoverUnit) : Nat :=
  match t.stack.getLast? with
  | some e => e.rank
  | none => 0

/-- The stack of the top entry, when that entry is a stack's. -/
def TakeoverUnit.topStack (t : TakeoverUnit) : Option StackNo :=
  match t.stack.getLast? with
  | some (.level _ k) => some k
  | _ => none

/-- Stack `k` is on top (R115). -/
def TakeoverUnit.onTop (t : TakeoverUnit) (k : StackNo) : Bool := t.topStack == some k

/-- Stack `k` holds an entry, on top or below (R115). -/
def TakeoverUnit.holds (t : TakeoverUnit) (k : StackNo) : Bool :=
  t.stack.any fun e => match e with
    | .level _ j => j == k
    | .safety => false

/-- The stack that holds level `l`, or none (R125). -/
def TakeoverUnit.holder (t : TakeoverUnit) (l : Nat) : Option StackNo :=
  t.stack.findSome? fun e => match e with
    | .level m k => if m == l then some k else none
    | .safety => none

/-- The key of an override within its level: a channel, or a window with a field group (R120). -/
inductive OverrideKey where
  | channel (n : ChannelNo)
  | window (w : WindowNo) (f : FieldGroup)
  deriving DecidableEq, Repr

/-- The item named by an override entry (R120). -/
def OverrideItem.key : OverrideItem → OverrideKey
  | .channel n _ _ => .channel n
  | .window w v => .window w v.group

/-- The entry of one key at one level, or none: the table never holds two (R120). -/
def overrideAt (table : List Override) (key : OverrideKey) (level : Nat) : Option Override :=
  table.find? fun e => e.level == level && decide (e.item.key = key)

/-- The entry in force for a key: the entry of highest level that the table holds for it (R123). -/
def overrideInForce (table : List Override) (key : OverrideKey) : Option Override :=
  (overrideAt table key 7).or ((overrideAt table key 6).or (overrideAt table key 5))

/-! ### Claims by item -/

/-- An item that a request or an action names (R142). -/
inductive Item where
  | channel (n : ChannelNo)
  | window (w : WindowNo)
  | group (g : GroupNo)
  | stack (k : StackNo)
  deriving DecidableEq, Repr

/-- The items a claim's range covers (R142). -/
def ClaimRange.covers : ClaimRange → Item → Bool
  | .channels first last, .channel n => decide (first ≤ n ∧ n ≤ last)
  | .windows set, .window w => set.getLsbD w.val
  | .group g, .group h => g == h
  | .stack k, .stack j => k == j
  | _, _ => false

/-- Entry `id` of the claim table is in use and covers the item. -/
def AccessUnit.claimCovers (a : AccessUnit) (id : ClaimId) (i : Item) : Bool :=
  match a.claims[id] with
  | some c => c.range.covers i
  | none => false

/-- Entry `id` is in use, covers the item and is owned by `who`. -/
def AccessUnit.claimOwns (a : AccessUnit) (who : Option Port) (id : ClaimId) (i : Item) : Bool :=
  match a.claims[id] with
  | some c => c.range.covers i && (some c.owner == who)
  | none => false

/-- The item is denied to `who` (a port, or no owner): some claim covers it and none of `who`'s does (R144, R145). -/
def AccessUnit.denied (a : AccessUnit) (who : Option Port) (i : Item) : Bool :=
  (List.finRange 64).any (fun id => a.claimCovers id i) && !(List.finRange 64).any (fun id => a.claimOwns who id i)

/-- The claim of lowest id that covers a denied item of the list, if an item is denied (R144). -/
def AccessUnit.denyingClaim (a : AccessUnit) (who : Option Port) (items : List Item) : Option ClaimId :=
  let bad := items.filter (a.denied who)
  (List.finRange 64).find? fun id => bad.any (a.claimCovers id)

/-- The owner of a stack: the port that holds a STACK claim on it, or none (R94, R142). -/
def AccessUnit.stackOwner (a : AccessUnit) (k : StackNo) : Option Port :=
  (List.finRange 64).findSome? fun id =>
    match a.claims[id] with
    | some c => if c.range.covers (.stack k) then some c.owner else none
    | none => none

/-! ### Small updates of the state -/

/-- The state with one stack record passed through `f`. -/
def State.modStack (s : State) (k : StackNo) (f : StackRec → StackRec) : State :=
  { s with cue := { s.cue with recs := updAt s.cue.recs k f } }

/-- The state with one control port passed through `f`. -/
def State.modPort (s : State) (p : Port) (f : PortState → PortState) : State :=
  { s with ports := { s.ports with port := updAt s.ports.port p f } }

/-- The state with one lighting line passed through `f`. -/
def State.modLine (s : State) (l : LineNo) (f : Line → Line) : State :=
  { s with lines := updAt s.lines l f }

/-- The state with one claim table entry replaced. -/
def State.setClaim (s : State) (id : ClaimId) (c : Option Claim) : State :=
  { s with access := { s.access with claims := s.access.claims.set id c } }

/-- Free cue records: 1024 less the records in use (R88). -/
def CueUnit.freeRecords (c : CueUnit) : Nat := 1024 - c.store.length

/-- Action slots in use: one per action of every record (R88). -/
def CueUnit.usedSlots (c : CueUnit) : Nat := (c.store.map fun q => q.body.actions.length).sum

/-- Free action slots: 4096 less the slots in use (R88). -/
def CueUnit.freeSlots (c : CueUnit) : Nat := 4096 - c.usedSlots

end Sys2Proof.Machine
end

