-- ==== Sys2Proof/Machine/Flags.lean ====
section
/-! DEFINITION. The part's flags: error counts, alert kinds and their routing, the alert sets with their ALERT lines,
and the notices that a raised alert owes (spec/10_control_ports_and_alerts.md 10.6). -/

namespace Sys2Proof.Machine

/-! ### Error counts -/

/-- The seven error counts (R171). -/
inductive ErrorKind where
  | stray
  | framing
  | gap
  | length
  | crc
  | overrun
  | breaks
  deriving DecidableEq, Repr

/-- One error counted; each count holds at 65535 (R171). -/
def ErrorCounts.bump (e : ErrorCounts) : ErrorKind → ErrorCounts
  | .stray => { e with stray := satSucc 65535 e.stray }
  | .framing => { e with framing := satSucc 65535 e.framing }
  | .gap => { e with gap := satSucc 65535 e.gap }
  | .length => { e with length := satSucc 65535 e.length }
  | .crc => { e with crc := satSucc 65535 e.crc }
  | .overrun => { e with overrun := satSucc 65535 e.overrun }
  | .breaks => { e with breaks := satSucc 65535 e.breaks }

/-- A port with one error counted. -/
def PortState.bump (p : PortState) (k : ErrorKind) : PortState := { p with errors := p.errors.bump k }

/-! ### Kinds and routing -/

/-- The kind number of an alert (spec/12_formats.md 12.5). -/
def Alert.kind : Alert → Fin 22
  | .refLost _ => 0
  | .refRegained _ => 1
  | .sourceHold _ _ => 2
  | .sourceLost _ _ => 3
  | .sourceBack _ _ => 4
  | .clipped _ _ => 5
  | .actionSkipped _ _ _ _ _ => 6
  | .guardAlert _ _ _ _ _ => 7
  | .deferApplied _ _ _ _ _ => 8
  | .cueLate _ _ _ _ _ => 9
  | .cueExpired _ _ _ _ _ => 10
  | .nestedLoop _ _ _ _ => 11
  | .overrideFull _ _ _ _ _ => 12
  | .handoverAsk _ _ _ _ => 14
  | .handoverGranted _ _ _ _ => 15
  | .handoverTimeout _ _ _ => 16
  | .takeoverChange _ _ _ _ => 17
  | .safetyChange _ _ _ _ => 18
  | .lineSkip _ _ _ => 19
  | .imageDone _ _ => 20
  | .imageFail _ _ _ => 21

/-- The place in the routing table of a kind number, for the sixteen kinds that can be routed (R179): kinds 0-12 and
17-19. -/
def routeSlot (kind : Nat) : Option (Fin 16) :=
  if h : kind ≤ 12 then some ⟨kind, by omega⟩
  else if kind = 17 then some 13
  else if kind = 18 then some 14
  else if kind = 19 then some 15
  else none

/-- The ports of an alert's routing set; a kind that cannot be routed has none (R179). -/
def State.routingSet (s : State) (a : Alert) : PortSet :=
  match routeSlot a.kind.val with
  | some i => s.ports.routing[i]
  | none => 0

/-- The set that holds one port. -/
def onlyPort (p : Port) : PortSet := BitVec.ofNat 4 (2 ^ p.val)

/-! ### Alert sets -/

/-- The port's ALERT line: active while its alert set is not empty (R182). -/
def PortState.alertLine (p : PortState) : Bool := p.alerts.toList.any Option.isSome

/-- The kinds in the alert set, bit n for kind n (spec/12_formats.md 12.1, 12.7). -/
def PortState.alertKinds (p : PortState) : BitVec 24 :=
  BitVec.ofNat 24 ((List.finRange 22).foldl (fun m k => if (p.alerts[k]).isSome then m + 2 ^ k.val else m) 0)

/-- An alert received by a port: its kind enters the set with count 1, or its detail is replaced and its count rises by
1, holding at 255 (R182). Where the set was empty and the push flag is set, a notice is owed (R183). -/
def PortState.receive (p : PortState) (a : Alert) : PortState :=
  { p with
    alerts := updAt p.alerts a.kind fun e =>
      some ⟨a, match e with
        | some e => satSucc 255 e.count
        | none => 1⟩
    noticeOwed := p.noticeOwed || (p.pushFlag && !p.alertLine) }

/-- An alert raised to a set of ports: every destination receives it at this instant (R181). -/
def State.raiseTo (s : State) (dest : PortSet) (a : Alert) : State :=
  { s with ports := { s.ports with
      port := tab fun i => if dest.getLsbD i.val then (s.ports.port[i]).receive a else s.ports.port[i] } }

/-- A routed kind raised to the ports of its routing set (R181). -/
def State.raiseRouted (s : State) (a : Alert) : State := s.raiseTo (s.routingSet a) a

/-- The destination of a targeted kind of stack `k`: its owner, or the kind's routing set when it has none (R113). -/
def State.stackDest (s : State) (k : StackNo) (a : Alert) : PortSet :=
  match s.access.stackOwner k with
  | some p => onlyPort p
  | none => s.routingSet a

/-- A targeted kind of a stack raised to its destination (R113, R181). -/
def State.raiseStack (s : State) (k : StackNo) (a : Alert) : State := s.raiseTo (s.stackDest k a) a

/-- Several alerts of one kind that independent units raise at one instant, in an order the manual does not give: the
free order `Config.alertOrder` decides where there are two or more (DESIGN CHOICE, log entry 8). -/
def State.raiseTogether (s : State) (l : List (PortSet × Alert)) : State :=
  match l with
  | [] => s
  | [x] => s.raiseTo x.1 x.2
  | l => (arrange (Config.alertOrder s.choices) l).foldl (fun s x => s.raiseTo x.1 x.2)
      { s with choices := s.choices + 1 }

/-! ### Notices -/

/-- A port whose transmitter is IDLE with a notice owed starts it, with the kinds in its set at this instant (R183). -/
def PortState.startNotice (p : PortState) (now : Frame) : PortState :=
  if p.tx.isNone && p.noticeOwed then { p with tx := some (.notice now p.alertKinds), noticeOwed := false } else p

/-- Every IDLE port with a notice owed starts it: the last thing at every instant at which alerts are raised, so that
alerts raised together enter the set together (R182, R183). A frame event is one such instant, so that a notice owed by
its MARK or its window close carries the counter as it stands after the FRAME (DESIGN CHOICE, log entry 36). -/
def State.startNotices (s : State) : State :=
  { s with ports := { s.ports with port := mapTab (fun p => p.startNotice s.ref.counter) s.ports.port } }

/-- How every command ends: the notices owed by what it raised start where the transmitter is IDLE. -/
def State.done (s : State) : Host.Outcome State Fault Refusal := .next s.startNotices

end Sys2Proof.Machine
end

