-- ==== Sys2Proof/Machine/Operands.lean ====
section
/-! DEFINITION. How the fields of a request payload are read (spec/12_formats.md 12.1, 12.3, 12.6): byte order, signed
quantities, the codes of named values, field groups, cue records and their actions. A reader answers FORMAT or RANGE
where R17, R55 and R91 do; FORMAT comes before RANGE over a whole request (DEDUCED, log entry 11). -/

namespace Sys2Proof.Machine

/-! ### Numbers (R191) -/

/-- Two bytes, most significant first. -/
def be16 (hi lo : Byte) : Nat := hi.toNat * 256 + lo.toNat

/-- Four bytes, most significant first. -/
def be32 (b3 b2 b1 b0 : Byte) : BitVec 32 :=
  BitVec.ofNat 32 (((b3.toNat * 256 + b2.toNat) * 256 + b1.toNat) * 256 + b0.toNat)

/-- Two bytes in two's complement. -/
def be16s (hi lo : Byte) : Int := if be16 hi lo < 32768 then (be16 hi lo : Int) else (be16 hi lo : Int) - 65536

/-- A number as an index below `n`, or RANGE. -/
def index (n : Nat) (x : Nat) : Except ReplyCode (Fin n) := if h : x < n then .ok ⟨x, h⟩ else .error .range

/-! ### Named values (R191) -/

/-- yes/no, set/clear, enabled: 0 or 1. -/
def flag? (b : Byte) : Option Bool := if b = 0 then some false else if b = 1 then some true else none

def bankRole? (b : Byte) : Option BankRole := if b = 0 then some .program else if b = 1 then some .preset else none

def curve? (b : Byte) : Option Curve := if b = 0 then some .linear else if b = 1 then some .soft else none

def outCurve? (b : Byte) : Option OutCurve := if b = 0 then some .linear else if b = 1 then some .square else none

def plane? (b : Byte) : Option Plane := if b = 0 then some .picture else if b = 1 then some .key else none

def trigger? (b : Byte) : Option Trigger := if b = 0 then some .go else if b = 1 then some .auto else none

def marker? (b : Byte) : Option LoopMarker :=
  if b = 0 then some .none else if b = 1 then some .loopStart else if b = 2 then some .loopEnd else none

def rate? (b : Byte) : Option Rate :=
  if b = 0 then some .r25 else if b = 1 then some .r2997 else if b = 2 then some .r50
  else if b = 3 then some .r5994 else none

def lineRate? (b : Byte) : Option LineRate :=
  if b = 0 then some .r115200 else if b = 1 then some .r460800 else if b = 2 then some .r1000000
  else if b = 3 then some .r3000000 else none

def guard? (b : Byte) : Option Guard :=
  if b = 0 then some .openMode else if b = 1 then some .alert else if b = 2 then some .defer
  else if b = 3 then some .refuse else none

def portRole? (b : Byte) : Option PortRole :=
  if b = 0 then some .engineering else if b = 1 then some .operator else none

def bankName? (b : Byte) : Option BankName := if b = 0 then some .a else if b = 1 then some .b else none

/-- An optional value as an answer, FORMAT where it is none. -/
def orFormat {α : Type} (x : Option α) : Except ReplyCode α :=
  match x with
  | some a => .ok a
  | none => .error .format

/-- Both answers, FORMAT before RANGE where both fail. -/
def both {α β : Type} (x : Except ReplyCode α) (y : Except ReplyCode β) : Except ReplyCode (α × β) :=
  match x, y with
  | .ok a, .ok b => .ok (a, b)
  | .error .format, _ => .error .format
  | _, .error .format => .error .format
  | .error c, _ => .error c
  | _, .error c => .error c

/-- All the answers of a list, FORMAT before RANGE where several fail. -/
def everyOk {α : Type} : List (Except ReplyCode α) → Except ReplyCode (List α)
  | [] => .ok []
  | x :: xs =>
    match both x (everyOk xs) with
    | .ok (a, l) => .ok (a :: l)
    | .error c => .error c

/-- FORMAT unless the condition holds. -/
def needFormat (c : Bool) : Except ReplyCode Unit := if c then .ok () else .error .format

/-- RANGE unless the condition holds. -/
def needRange (c : Bool) : Except ReplyCode Unit := if c then .ok () else .error .range

/-- Reserved bytes are 0 in a request (R191). -/
def allZero (l : List Byte) : Bool := l.all (· == 0)

/-! ### Window field groups (12.3) -/

/-- The width of a field group in bytes. -/
def FieldGroup.width : FieldGroup → Nat
  | .enable => 1
  | .rect => 8
  | .source => 1
  | .plane => 1
  | .offset => 4
  | .orient => 1
  | .brightness => 2
  | .layer => 1
  | .flat => 3

/-- The field group of a number (12.3). -/
def fieldGroup? (b : Byte) : Option FieldGroup := FieldGroup.all.find? fun g => decide (g.number = b.toNat)

/-- The values of a field group as carried, brought into range (R17, R18): FORMAT for a value that is not one of its
named values and for a reserved bit, RANGE for a source port above 3 or a layer above 31. -/
def fieldValue (g : FieldGroup) (l : List Byte) : Except ReplyCode FieldValue :=
  match g, l with
  | .enable, [b] => (orFormat (flag? b)).map .enable
  | .rect, [a1, a0, b1, b0, c1, c0, d1, d0] =>
    .ok (FieldValue.rect (be16 a1 a0) (be16 b1 b0) (be16 c1 c0) (be16 d1 d0)).clamp
  | .source, [b] => if b = 0xFF then .ok (.source .flat) else (index 4 b.toNat).map fun p => .source (.port p)
  | .plane, [b] => (orFormat (plane? b)).map .plane
  | .offset, [a1, a0, b1, b0] => .ok (FieldValue.offset (be16s a1 a0) (be16s b1 b0)).clamp
  | .orient, [b] => (needFormat (decide (b.toNat < 4))).map fun _ => .orient (b.getLsbD 0) (b.getLsbD 1)
  | .brightness, [b1, b0] => .ok (FieldValue.brightness (be16 b1 b0)).clamp
  | .layer, [b] => (index 32 b.toNat).map .layer
  | .flat, [r, g, b] => .ok (.flat ⟨r.toNat, g.toNat, b.toNat⟩)
  | _, _ => .error .format

/-- The bytes of each carried field group, in group order, when the length fits the mask exactly. -/
def splitGroups (mask : Nat) : List FieldGroup → List Byte → Option (List (FieldGroup × List Byte))
  | [], [] => some []
  | [], _ => none
  | g :: gs, l =>
    if mask.testBit g.number then
      if g.width ≤ l.length then
        (splitGroups mask gs (l.drop g.width)).map fun r => (g, l.take g.width) :: r
      else none
    else splitGroups mask gs l

/-! ### Cue records and actions (12.6) -/

/-- One action of twelve bytes, checked and brought into range as R90 and R91 state. -/
def action (l : List Byte) : Except ReplyCode Action :=
  match l with
  | [kind, bank, o0, o1, o2, o3, o4, o5, o6, o7, o8, o9] =>
    if kind = 1 then
      let first := be16 o0 o1
      let last := be16 o2 o3
      match both (both (orFormat (bankRole? bank)) (needFormat (allZero [o8, o9] && decide (first ≤ last))))
          (both (index 1024 first) (index 1024 last)) with
      | .ok ((role, _), (f, l)) => .ok (.level role f l (be16 o4 o5) (be16 o6 o7))
      | .error c => .error c
    else if kind = 2 then
      match fieldGroup? o1 with
      | none => .error .format
      | some g =>
        let value := [o2, o3, o4, o5, o6, o7, o8, o9]
        match both (both (orFormat (bankRole? bank)) (needFormat (allZero (value.drop g.width))))
            (both (index 32 o0.toNat) (fieldValue g (value.take g.width))) with
        | .ok ((role, _), (w, v)) => .ok (.window role w v)
        | .error c => .error c
    else if kind = 3 then
      match both (needFormat (allZero [bank, o3, o4, o5, o6, o7, o8, o9])) (index 16 o0.toNat) with
      | .ok (_, g) => .ok (.master g (clampNat 0 256 (be16 o1 o2)))
      | .error c => .error c
    else if kind = 4 then
      match both (needFormat (allZero [bank, o1, o2, o3, o4, o5, o6, o7, o8, o9])) (index 4 o0.toNat) with
      | .ok (_, n) => .ok (.take n)
      | .error c => .error c
    else if kind = 5 then
      (needFormat (allZero [bank, o0, o1, o2, o3, o4, o5, o6, o7, o8, o9])).map fun _ => .copy
    else if kind = 6 then
      match both (needFormat (allZero [bank, o1, o2, o3, o4, o5, o6, o7, o8, o9])) (index 8 o0.toNat) with
      | .ok (_, k) => .ok (.goStack k)
      | .error c => .error c
    else .error .format
  | _ => .error .format

/-- The first `n` pieces of twelve bytes. -/
def twelves : Nat → List Byte → List (List Byte)
  | 0, _ => []
  | n + 1, l => l.take 12 :: twelves n (l.drop 12)

/-- A cue record: eleven bytes and then 1-16 actions of twelve bytes, the length agreeing with the action count. -/
def cueBody (l : List Byte) : Except ReplyCode CueBody :=
  match l with
  | trig :: w1 :: w0 :: r :: i :: mark :: c :: rel :: f1 :: f0 :: count :: rest =>
    let n := count.toNat
    if n = 0 || 16 < n || rest.length ≠ 12 * n then .error .format
    else
      match both (both (orFormat (trigger? trig)) (both (orFormat (marker? mark)) (orFormat (flag? rel))))
          (everyOk ((twelves n rest).map action)) with
      | .ok ((t, (m, rl)), acts) =>
        .ok { trigger := t, wait := be16 w1 w0, repeats := r.toNat, interval := i.toNat, marker := m,
              loopCount := c.toNat, release := rl, releaseFade := be16 f1 f0, actions := acts }
      | .error c => .error c
  | _ => .error .format

/-! ### The answer of a request -/

/-- What a request that is taken answers: its reply code, the data it returns and the state it leaves (R177, R192). -/
structure Answer where
  code : ReplyCode
  data : List Byte
  state : State

/-- A refusal: a request that fails a check changes nothing (R177). -/
def refuse (s : State) (c : ReplyCode) : Answer := ⟨c, [], s⟩

/-- OK with no data. -/
def okay (s : State) : Answer := ⟨.ok, [], s⟩

/-- Goes on with a request whose fields passed their checks, or answers the check that failed. -/
def withFields {α : Type} (s : State) (x : Except ReplyCode α) (f : α → Answer) : Answer :=
  match x with
  | .ok a => f a
  | .error c => refuse s c

end Sys2Proof.Machine
end

