-- ==== Sys2Proof/Machine/Formats.lean ====
section
/-! DEFINITION. The byte layouts that the part sends and stores (spec/12_formats.md): field encodings, records, alert
details, control frames with their CRC-16, and the image's CRC-32. Layouts that no table of the chapter gives follow
R191's rules of width and order (DEDUCED, log entry 12). -/

namespace Sys2Proof.Machine

/-! ### Numbers and named values (R191) -/

/-- One byte. -/
def u8 (n : Nat) : List Byte := [BitVec.ofNat 8 n]

/-- Two bytes, most significant first. -/
def u16 (n : Nat) : List Byte := [BitVec.ofNat 8 (n / 256), BitVec.ofNat 8 n]

/-- Four bytes, most significant first. -/
def u32 (n : Nat) : List Byte :=
  [BitVec.ofNat 8 (n / 16777216), BitVec.ofNat 8 (n / 65536), BitVec.ofNat 8 (n / 256), BitVec.ofNat 8 n]

/-- A frame number or frame counter: four bytes. -/
def frameBytes (f : Frame) : List Byte := u32 f.toNat

/-- A signed quantity in two's complement, two bytes. -/
def s16 (x : Int) : List Byte := u16 (x % 65536).toNat

def flagByte (b : Bool) : List Byte := [if b then 1 else 0]

/-- A value that may be none: a presence byte, and its bytes, which are 0 when it is absent (R191). -/
def optional {α : Type} (width : Nat) (f : α → List Byte) : Option α → List Byte
  | some a => 1 :: f a
  | none => 0 :: List.replicate width 0

def Curve.code : Curve → Nat
  | .linear => 0
  | .soft => 1

def OutCurve.code : OutCurve → Nat
  | .linear => 0
  | .square => 1

def Plane.code : Plane → Nat
  | .picture => 0
  | .key => 1

def BankRole.code : BankRole → Nat
  | .program => 0
  | .preset => 1

def BankName.code : BankName → Nat
  | .a => 0
  | .b => 1

def Trigger.code : Trigger → Nat
  | .go => 0
  | .auto => 1

def LoopMarker.code : LoopMarker → Nat
  | .none => 0
  | .loopStart => 1
  | .loopEnd => 2

def Rate.code : Rate → Nat
  | .r25 => 0
  | .r2997 => 1
  | .r50 => 2
  | .r5994 => 3

def LineRate.code : LineRate → Nat
  | .r115200 => 0
  | .r460800 => 1
  | .r1000000 => 2
  | .r3000000 => 3

def Guard.code : Guard → Nat
  | .openMode => 0
  | .alert => 1
  | .defer => 2
  | .refuse => 3

def PortRole.code : PortRole → Nat
  | .engineering => 0
  | .operator => 1

def LockState.code : LockState → Nat
  | .locked => 0
  | .free => 1

def SourceState.code : SourceState → Nat
  | .absent => 0
  | .locked => 1
  | .holding => 2
  | .lost => 3

def LevelSource.code : LevelSource → Nat
  | .bank => 0
  | .override l => l
  | .safety => 8

def SkipReason.code : SkipReason → Nat
  | .denied => 0
  | .guarded => 1
  | .bankBusy => 2
  | .queueFull => 3
  | .overrideFull => 4

def WriteKind.code : WriteKind → Nat
  | .bank => 0
  | .master => 1
  | .override => 2

def DeferCause.code : DeferCause → Nat
  | .shot => 0
  | .guard => 1
  | .preset => 2

def TakeoverCause.code : TakeoverCause → Nat
  | .pushed => 0
  | .accepted => 1
  | .released => 2
  | .reset => 3

def GrantCause.code : GrantCause → Nat
  | .yielded => 0
  | .unclaimed => 1
  | .auto => 2

def TimeoutCause.code : TimeoutCause → Nat
  | .expired => 0
  | .dropped => 1
  | .reset => 2

def ImageFailCause.code : ImageFailCause → Nat
  | .verify => 0
  | .timeout => 1

/-- The reply codes' encodings (R192). -/
def ReplyCode.code : ReplyCode → Nat
  | .ok => 0x00
  | .pending => 0x01
  | .doneEarly => 0x02
  | .late => 0x03
  | .deferred => 0x04
  | .guarded => 0x05
  | .denied => 0x06
  | .conflict => 0x07
  | .contested => 0x08
  | .busy => 0x09
  | .atEnd => 0x0A
  | .notFound => 0x0B
  | .range => 0x0C
  | .format => 0x0D
  | .role => 0x0E
  | .locked => 0x0F
  | .noSpace => 0x10
  | .queueFull => 0x11
  | .overrun => 0x12
  | .lastEngineer => 0x13
  | .suspended => 0x14
  | .notContested => 0x15

/-! ### Records -/

def RGB.bytes (c : RGB) : List Byte := u8 c.r ++ u8 c.g ++ u8 c.b

def Source.bytes : Source → List Byte
  | .port p => u8 p.val
  | .flat => [0xFF]

/-- A field group's values at its width (12.3). -/
def FieldValue.bytes : FieldValue → List Byte
  | .enable on => flagByte on
  | .rect x0 y0 x1 y1 => u16 x0 ++ u16 y0 ++ u16 x1 ++ u16 y1
  | .source s => s.bytes
  | .plane p => u8 p.code
  | .offset dx dy => s16 dx ++ s16 dy
  | .orient mx my => u8 ((if mx then 1 else 0) + (if my then 2 else 0))
  | .brightness b => u16 b
  | .layer l => u8 l.val
  | .flat c => c.bytes

/-- All nine field groups of a window record, in group order. -/
def WindowRec.bytes (r : WindowRec) : List Byte := FieldGroup.all.flatMap fun g => (r.read g).bytes

def ChannelRec.bytes (c : ChannelRec) : List Byte := u16 c.level ++ u16 c.fade ++ u8 c.curve.code

/-- A bank in the image: windows, fill, channels (R12, R13). -/
def Bank.bytes (b : Bank) : List Byte :=
  b.windows.toList.flatMap WindowRec.bytes ++ b.fill.bytes ++ b.channels.toList.flatMap ChannelRec.bytes

/-- A patch record, 17 bytes (12.5). -/
def PatchRec.bytes (p : PatchRec) : List Byte :=
  (match p.line with
    | some l => u8 l.val
    | none => [0xFF])
  ++ u16 p.slot ++ u8 p.width ++ flagByte p.fineFirst ++ u8 p.curve.code ++ u16 p.limit ++ u8 p.group.val
  ++ (match p.follow with
    | some w => u8 w.val
    | none => [0xFF])
  ++ s16 p.gain ++ u16 p.reference ++ optional 2 u16 p.safety

/-- A fade context, 12 bytes (12.5). -/
def FadeContext.bytes (c : FadeContext) : List Byte :=
  u16 c.start ++ u16 c.target ++ u16 c.frames ++ u16 c.k ++ u8 c.curve.code ++ u8 c.source.code ++ u16 c.base

/-- An action, 12 bytes (12.6). -/
def Action.bytes (a : Action) : List Byte :=
  let body := match a with
    | .level role first last v d =>
      u8 1 ++ u8 role.code ++ u16 first.val ++ u16 last.val ++ u16 v ++ u16 d
    | .window role w v => u8 2 ++ u8 role.code ++ u8 w.val ++ u8 v.group.number ++ v.bytes
    | .master g v => u8 3 ++ u8 0 ++ u8 g.val ++ u16 v
    | .take n => u8 4 ++ u8 0 ++ u8 n.val
    | .copy => u8 5
    | .goStack k => u8 6 ++ u8 0 ++ u8 k.val
  body ++ List.replicate (12 - body.length) 0

/-- A cue record, 11 bytes and its actions (12.6). -/
def CueBody.bytes (c : CueBody) : List Byte :=
  u8 c.trigger.code ++ u16 c.wait ++ u8 c.repeats ++ u8 c.interval ++ u8 c.marker.code ++ u8 c.loopCount
  ++ flagByte c.release ++ u16 c.releaseFade ++ u8 c.actions.length ++ c.actions.flatMap Action.bytes

/-- A cue record in the image, prefixed with its stack and cue number (12.9). -/
def Cue.bytes (c : Cue) : List Byte := u8 c.stack.val ++ u16 c.number ++ c.body.bytes

def ClaimRange.bytes : ClaimRange → List Byte
  | .channels first last => u16 first.val ++ u16 last.val
  | .windows set => u32 set.toNat
  | .group g => u8 g.val
  | .stack k => u8 k.val

def ClaimRange.kindCode : ClaimRange → Nat
  | .channels _ _ => 0
  | .windows _ => 1
  | .group _ => 2
  | .stack _ => 3

/-- A claim table entry as READ(CLAIM) lists it (R156). -/
def Claim.bytes (c : Claim) : List Byte :=
  u8 c.owner.val ++ u8 c.range.kindCode ++ c.range.bytes ++ flagByte c.autoYield
  ++ u8 (if c.contest.isSome then 1 else 0)
  ++ optional 1 (fun w => u8 w.waiting.val) c.contest ++ optional 4 (fun w => frameBytes w.expiry) c.contest

def DeferTarget.bytes : DeferTarget → List Byte
  | .channel n => u8 0 ++ u16 n.val
  | .window w f => u8 1 ++ u8 w.val ++ u8 f.number
  | .master g => u8 2 ++ u8 g.val

def Writer.bytes : Writer → List Byte
  | .port p => u8 0 ++ u8 p.val
  | .stack k => u8 1 ++ u8 k.val

/-- The target of an item's write (R164). -/
def ItemWrite.target : ItemWrite → DeferTarget
  | .channel _ n _ _ _ => .channel n
  | .window _ w v => .window w v.group
  | .master g _ => .master g

/-- The physical bank of an item's write; a master has none (R164). -/
def ItemWrite.bank : ItemWrite → Option BankName
  | .channel n _ _ _ _ => some n
  | .window n _ _ => some n
  | .master _ _ => none

/-- An entry of the deferred queue as READ(QUEUE) lists it (R164). -/
def Deferred.bytes (d : Deferred) : List Byte :=
  d.write.target.bytes ++ optional 1 (fun n : BankName => u8 n.code) d.write.bank
  ++ (match d.write with
    | .channel _ _ level fade curve =>
      u16 level ++ optional 2 u16 fade ++ optional 1 (fun c : Curve => u8 c.code) curve
    | .window _ _ v => v.bytes ++ optional 2 u16 none ++ optional 1 (fun c : Curve => u8 c.code) none
    | .master _ v => u16 v ++ optional 2 u16 none ++ optional 1 (fun c : Curve => u8 c.code) none)
  ++ d.origin.bytes

/-- The item of a GUARD_ALERT: a choice of one byte and the number at the width that 12.4 gives its kind, a window and a
group 1 byte and a channel 2 (DEDUCED, log entry 13). -/
def GuardedItem.bytes : GuardedItem → List Byte
  | .window w => u8 0 ++ u8 w.val
  | .channel n => u8 1 ++ u16 n.val
  | .master g => u8 2 ++ u8 g.val

/-- The detail of an alert: the fields that its chapter lists, in its order (12.5; DEDUCED, log entry 13). The frames
late d of CUE_LATE take 4 bytes, the width of d as R98 defines it and as CUE_EXPIRED needs it, where the range 1 to G
of CUE_LATE alone would fit in 2 (R191 leaves it open; DEDUCED, log entry 13). -/
def Alert.detail : Alert → List Byte
  | .refLost f => frameBytes f
  | .refRegained f => frameBytes f
  | .sourceHold p f => u8 p.val ++ frameBytes f
  | .sourceLost p f => u8 p.val ++ frameBytes f
  | .sourceBack p f => u8 p.val ++ frameBytes f
  | .clipped g f => u16 g.toNat ++ frameBytes f
  | .actionSkipped k cue place reason f => u8 k.val ++ u16 cue ++ u8 place ++ u8 reason.code ++ frameBytes f
  | .guardAlert item g w kind f => item.bytes ++ u8 g.code ++ w.bytes ++ u8 kind.code ++ frameBytes f
  | .deferApplied n target bank cause f =>
    u8 n ++ target.bytes ++ optional 1 (fun n : BankName => u8 n.code) bank ++ u8 cause.code ++ frameBytes f
  | .cueLate k cue target d f => u8 k.val ++ u16 cue ++ frameBytes target ++ frameBytes d ++ frameBytes f
  | .cueExpired k cue target d f => u8 k.val ++ u16 cue ++ frameBytes target ++ frameBytes d ++ frameBytes f
  | .nestedLoop k cue start f => u8 k.val ++ u16 cue ++ u16 start ++ frameBytes f
  | .overrideFull k cue needed free f => u8 k.val ++ u16 cue ++ u16 needed ++ u16 free ++ frameBytes f
  | .handoverAsk id p expiry f => u8 id.val ++ u8 p.val ++ frameBytes expiry ++ frameBytes f
  | .handoverGranted id p cause f => u8 id.val ++ u8 p.val ++ u8 cause.code ++ frameBytes f
  | .handoverTimeout id cause f => u8 id.val ++ u8 cause.code ++ frameBytes f
  | .takeoverChange cause h mask f =>
    u8 cause.code ++ optional 1 (fun x : Nat × StackNo => u8 x.1) h
    ++ optional 1 (fun x : Nat × StackNo => u8 x.2.val) h ++ u8 mask ++ frameBytes f
  | .safetyChange inForce emergency latch f =>
    flagByte inForce ++ flagByte emergency ++ flagByte latch ++ frameBytes f
  | .lineSkip l f n => u8 l.val ++ frameBytes f ++ u16 n
  | .imageDone a c => frameBytes a ++ frameBytes c
  | .imageFail a c cause => frameBytes a ++ frameBytes c ++ u8 cause.code

/-! ### CRCs -/

/-- One bit step of the CRC-16 register, polynomial 0x1021, most significant bit first (R174). -/
def crc16Bit (r : BitVec 16) : BitVec 16 := if r.msb then (r <<< 1) ^^^ 0x1021 else r <<< 1

/-- One byte taken into the CRC-16 register. -/
def crc16Byte (r : BitVec 16) (b : Byte) : BitVec 16 :=
  crc16Bit (crc16Bit (crc16Bit (crc16Bit (crc16Bit (crc16Bit (crc16Bit (crc16Bit (r ^^^ (b.setWidth 16 <<< 8)))))))))

/-- The CRC-16 of a control frame's bytes: initial value 0xFFFF, not inverted (R174). -/
def crc16 (l : List Byte) : BitVec 16 := l.foldl crc16Byte 0xFFFF

/-- One bit step of the CRC-32 register, polynomial 0x04C11DB7 with bytes taken least significant bit first, so in its
reflected form 0xEDB88320 (R185). -/
def crc32Bit (r : BitVec 32) : BitVec 32 := if r.getLsbD 0 then (r >>> 1) ^^^ 0xEDB88320 else r >>> 1

/-- One byte taken into the CRC-32 register. -/
def crc32Byte (r : BitVec 32) (b : Byte) : BitVec 32 :=
  crc32Bit (crc32Bit (crc32Bit (crc32Bit (crc32Bit (crc32Bit (crc32Bit (crc32Bit (r ^^^ b.setWidth 32))))))))

/-- The CRC-32 of the image body: initial value 0xFFFFFFFF, result inverted (R185). -/
def crc32 (l : List Byte) : BitVec 32 := ~~~ (l.foldl crc32Byte 0xFFFFFFFF)

/-! ### Bytes on a serial line (10.2, R79) -/

/-- The bits of a byte in UART framing: a start bit, the eight data bits with the least significant first, and the stop
bits, no parity. A start bit is sent as 0 and a stop bit as 1 (PRESUMED, log entry 38). -/
def uartBits (stops : Nat) (b : Byte) : List Bool :=
  false :: (List.finRange 8).map (fun i => b.getLsbD i.val) ++ List.replicate stops true

/-! ### Control frames (12.2) -/

/-- The bytes of a control frame whose body (code, tag, payload) is given. -/
def frameOf (body : List Byte) : List Byte :=
  0xC3 :: (u16 body.length ++ body ++ u16 (crc16 (u16 body.length ++ body)).toNat)

/-- The bytes on the line of a frame that a transmitter sends (R183, R192, 12.2, 12.7). -/
def TxFrame.bytes : TxFrame → List Byte
  | .reply code tag result f data => frameOf (code :: tag :: (u8 result.code ++ frameBytes f ++ data))
  | .overrun code tag f => frameOf (code :: tag :: (u8 ReplyCode.overrun.code ++ frameBytes f))
  | .notice f kinds => frameOf (0x7F :: 0x00 :: (frameBytes f ++
      [BitVec.ofNat 8 (kinds.toNat / 65536), BitVec.ofNat 8 (kinds.toNat / 256), BitVec.ofNat 8 kinds.toNat]))

/-- The bits on a control port's line of a frame that its transmitter sends: ten to a byte, one stop bit (10.2). -/
def TxFrame.bits (f : TxFrame) : List Bool := f.bytes.flatMap (uartBits 1)

end Sys2Proof.Machine
end

