-- ==== Sys2Proof/Machine/SceneBanks.lean ====
section
/-! DEFINITION. Scene Memory (spec/02_scene_banks.md): what an item's write stores, TAKE, COPY, and the step the
transition takes at each FRAME. The requests that write the banks are in Machine/BankRequests.lean. -/

namespace Sys2Proof.Machine

/-! ### Writes -/

/-- A channel record with a level, and a fade and curve where the write carries them (R20). -/
def ChannelRec.write (c : ChannelRec) (level : Nat) (fade : Option Nat) (curve : Option Curve) : ChannelRec :=
  { level, fade := fade.getD c.fade, curve := curve.getD c.curve }

/-- A bank with one channel record written. -/
def Bank.writeChannel (b : Bank) (n : ChannelNo) (level : Nat) (fade : Option Nat) (curve : Option Curve) : Bank :=
  { b with channels := updAt b.channels n fun c => c.write level fade curve }

/-- A bank with one field group of one window record written. -/
def Bank.writeWindow (b : Bank) (w : WindowNo) (v : FieldValue) : Bank :=
  { b with windows := updAt b.windows w fun r => r.write v }

/-- An item's write stored in its physical bank or its master (R17, R58, R167). -/
def State.writeItem (s : State) : ItemWrite → State
  | .channel n c level fade curve =>
    { s with scene := s.scene.modBank n fun b => b.writeChannel c level fade curve }
  | .window n w v => { s with scene := s.scene.modBank n fun b => b.writeWindow w v }
  | .master g v => { s with level := { s.level with masters := s.level.masters.set g v } }

/-! ### TAKE and COPY -/

/-- A TAKE of set `n` at the state the context is in (R25): its reply code and the context after it. -/
def Transition.take (t : Transition) (n : SetNo) : ReplyCode × Transition :=
  match t with
  | .idle => (.ok, .pending n)
  | .pending m => (.doneEarly, .pending m)
  | .running r => (.doneEarly, .running { r with hurry := true })

/-- The state after a TAKE of set `n`. -/
def State.takeSet (s : State) (n : SetNo) : State :=
  { s with scene := { s.scene with trans := (s.scene.trans.take n).2 } }

/-- The whole program bank copied into the preset bank, removing every deferred entry that names the preset bank
(R30, R166). -/
def State.copyBanks (s : State) : State :=
  { s with
    scene := s.scene.modBank s.scene.program.other fun _ => s.scene.bank s.scene.program
    tally := { s.tally with
      queue := s.tally.queue.filter fun d => !decide (d.write.bank = some s.scene.program.other) } }

/-! ### The FRAME step -/

/-- The dissolve and fade weight of `k` frames of `n` by a curve, 0-65536 (R43, R65). -/
def Curve.weight (c : Curve) (k n : Nat) : Nat :=
  let p := k * 65536 / n
  match c with
  | .linear => p
  | .soft => p * p * (196608 - 2 * p) / 4294967296

/-- What the readers of a FRAME see of the transition: whether they saw one at all (R51), and the outgoing bank with
the weight of the incoming picture while there is a picture to mix (R26, R27, R43). -/
structure FrameView where
  saw : Bool
  mix : Option (BankName × Nat)
  deriving DecidableEq, Repr

/-- The Scene Memory's step at a FRAME (R26, R27): a pending take swaps, with duration and curve as the sets stand; a
running transition advances, and ends when k reaches N or hurry is set; an idle context does nothing. -/
def SceneMemory.frameStep (m : SceneMemory) (sets : Vector TransitionSet 4) : SceneMemory × FrameView :=
  match m.trans with
  | .idle => (m, ⟨false, none⟩)
  | .pending n =>
    let t := sets[n]
    if t.duration ≤ 1 then
      ({ m with program := m.program.other, trans := .idle }, ⟨true, none⟩)
    else
      ({ m with
          program := m.program.other
          trans := .running ⟨n, t.duration, t.curve, 1, m.program, false⟩ },
       ⟨true, some (m.program, t.curve.weight 1 t.duration)⟩)
  | .running r =>
    if r.hurry || r.frames ≤ r.k + 1 then
      ({ m with trans := .idle }, ⟨true, some (r.outgoing, r.curve.weight r.frames r.frames)⟩)
    else
      ({ m with trans := .running { r with k := r.k + 1 } },
       ⟨true, some (r.outgoing, r.curve.weight (r.k + 1) r.frames)⟩)

end Sys2Proof.Machine
end

