-- ==== Sys2Proof/Machine/WallMapper.lean ====
section
/-! DEFINITION. Wall Mapper (spec/03_wall_mapper.md): source ports, effective window records, composition of the
canvas, the dissolve, the pictures the wall links send, luminance measurement, and the requests SET_SOURCE,
SET_TRANSITION and SET_WALL_LINK. -/

namespace Sys2Proof.Machine

/-! ### Source ports -/

/-- The declared raster size can be shown: width 1-3840 and height 1-2160 (R34). -/
def rasterFits (f : Sys2Proof.SourceFrame) : Bool :=
  decide (1 ≤ f.width ∧ f.width ≤ 3840 ∧ 1 ≤ f.height ∧ f.height ≤ 2160)

/-- Every pixel of the declared raster has been received (R34). -/
def rasterWhole (f : Sys2Proof.SourceFrame) : Bool := decide (f.pixels.length = f.width * f.height)

/-- The alert that a source port's step raises (R35). -/
inductive SourceAlert where
  | hold
  | lost
  | back
  deriving DecidableEq, Repr

/-- A source port's step at a FRAME, row by row as the table of R35. -/
def SourcePort.step (p : SourcePort) : SourcePort × Option SourceAlert :=
  match p.arrived with
  | some f =>
    ({ p with state := .locked, holdCount := 0, held := some f, arrived := none },
     if p.state = .lost then some .back else none)
  | none =>
    match p.state with
    | .absent => ({ p with holdCount := 0 }, none)
    | .locked =>
      if 1 ≤ p.holdLimit then ({ p with state := .holding, holdCount := 1 }, some .hold)
      else ({ p with state := .lost, holdCount := 1 }, some .lost)
    | .holding =>
      if p.holdCount + 1 ≤ p.holdLimit then ({ p with holdCount := p.holdCount + 1 }, none)
      else ({ p with state := .lost, holdCount := p.holdCount + 1 }, some .lost)
    | .lost => (p, none)

/-- The alerts of one kind that the four ports' steps raise at this FRAME, with their destinations (R53). -/
def sourceAlerts (s : State) (before : Vector SourcePort 4) (which : SourceAlert)
    (mk : SourceNo → Frame → Alert) : List (PortSet × Alert) :=
  ((List.finRange 4).filter fun i => decide ((before[i]).step.2 = some which)).map fun i =>
    (s.routingSet (mk i s.ref.counter), mk i s.ref.counter)

/-- Every source port's step at a FRAME, with the alerts of R53. -/
def State.stepSources (s : State) : State :=
  let before := s.wall.sources
  let s1 := { s with wall := { s.wall with sources := mapTab (fun p : SourcePort => p.step.1) before } }
  ((s1.raiseTogether (sourceAlerts s before .hold .sourceHold)).raiseTogether
    (sourceAlerts s before .lost .sourceLost)).raiseTogether (sourceAlerts s before .back .sourceBack)

/-! ### Composition -/

/-- The effective record of window `w`: the bank's record with the override in force of each field group laid over it
(R38). -/
def effectiveRecord (table : List Override) (w : WindowNo) (r : WindowRec) : WindowRec :=
  FieldGroup.all.foldl (fun r g =>
    match overrideInForce table (.window w g) with
    | some ⟨_, .window _ v, _⟩ => r.write v
    | _ => r) r

/-- The picture of a bank under the override table (R38). -/
def Bank.picture (b : Bank) (table : List Override) : Picture :=
  ⟨tab fun w => effectiveRecord table w b.windows[w], b.fill⟩

/-- A window's rectangle contains the pixel and the window is enabled (R39). -/
def WindowRec.candidate (r : WindowRec) (x y : Nat) : Bool :=
  r.enabled && decide (r.x0 ≤ x ∧ x ≤ r.x1 ∧ r.y0 ≤ y ∧ y ≤ r.y1)

/-- The covering window of a pixel: the candidate of highest layer, of lowest number among equals (R39). -/
def Picture.covering (p : Picture) (x y : Nat) : Option WindowNo :=
  (List.finRange 32).foldl (fun best i =>
    if (p.windows[i]).candidate x y then
      match best with
      | some j => if (p.windows[j]).layer < (p.windows[i]).layer then some i else best
      | none => some i
    else best) none

/-- A component scaled by a brightness 0-256 (R41, R46). -/
def scale (c b : Nat) : Nat := (c * b + 128) / 256

def RGB.scale (c : RGB) (b : Nat) : RGB := ⟨Machine.scale c.r b, Machine.scale c.g b, Machine.scale c.b b⟩

/-- The pixel of a source frame at a source coordinate inside its raster. -/
def pixelAt (f : Sys2Proof.SourceFrame) (x y : Nat) : Sys2Proof.Pixel := f.pixels.getD (y * f.width + x) ⟨0, 0, 0, 0⟩

/-- What a window on source port `sp` shows at a canvas pixel, or none where it gives the fill colour (R37, R40). -/
def windowSource (sp : SourcePort) (r : WindowRec) (x y : Nat) : Option RGB :=
  match sp.state, sp.held with
  | .absent, _ => none
  | .lost, _ => none
  | _, none => none
  | _, some f =>
    let x' : Int := if r.mirrorX then (r.x0 : Int) + r.x1 - x else x
    let y' : Int := if r.mirrorY then (r.y0 : Int) + r.y1 - y else y
    let sx := x' + r.dx
    let sy := y' + r.dy
    if 0 ≤ sx ∧ sx < f.width ∧ 0 ≤ sy ∧ sy < f.height then
      let p := pixelAt f sx.toNat sy.toNat
      match r.plane with
      | .picture => some ⟨p.r.toNat, p.g.toNat, p.b.toNat⟩
      | .key => some ⟨p.key.toNat, p.key.toNat, p.key.toNat⟩
    else none

/-- The composed pixel of a picture (R39 to R41). -/
def Picture.pixel (p : Picture) (sources : Vector SourcePort 4) (x y : Nat) : RGB :=
  match p.covering x y with
  | none => p.fill
  | some i =>
    let r := p.windows[i]
    match r.source with
    | .flat => r.flat.scale r.brightness
    | .port q =>
      match windowSource sources[q] r x y with
      | some c => c.scale r.brightness
      | none => p.fill

/-- One component of a dissolve at weight `w` (R44). -/
def mixComponent (w old new : Nat) : Nat := (old * (65536 - w) + new * w + 32768) / 65536

def RGB.mix (w : Nat) (old new : RGB) : RGB :=
  ⟨mixComponent w old.r new.r, mixComponent w old.g new.g, mixComponent w old.b new.b⟩

/-- A pixel of the canvas as a scan composes it (R44). -/
def ScanRecord.canvas (sc : ScanRecord) (x y : Nat) : RGB :=
  match sc.mix with
  | none => sc.new.pixel sc.sources x y
  | some (old, w) => RGB.mix w (old.pixel sc.sources x y) (sc.new.pixel sc.sources x y)

/-! ### Scan and wall links -/

/-- The scan that starts at a FRAME takes everything the frame needs at once (R46): call it after the Scene Memory's
step, whose view is given, and after the source ports' steps. -/
def State.startScan (s : State) (view : FrameView) : State :=
  let table := s.takeover.overrides
  let rec0 : ScanRecord :=
    { frame := s.ref.counter
      sources := s.wall.sources
      new := (s.scene.bank s.scene.program).picture table
      mix := view.mix.map fun m => ((s.scene.bank m.1).picture table, m.2)
      safetyWall := if s.takeover.inForce then some s.takeover.safetyWall else none
      links := s.wall.links
      measured := !view.saw }
  { s with wall := { s.wall with scan := some rec0 } }

/-- The brightness a link sends with in a scan (R46, R48). -/
def ScanRecord.linkBrightness (sc : ScanRecord) (l : LinkNo) : Nat := sc.safetyWall.getD (sc.links[l]).brightness

/-- The pixel that link `l` sends for canvas pixel (x, y) (R46). -/
def ScanRecord.linkPixel (sc : ScanRecord) (l : LinkNo) (x y : Nat) : RGB :=
  (sc.canvas x y).scale (sc.linkBrightness l)

/-- A picture as a wall link sends it: width and height ahead of the pixels (R46). -/
structure LinkPicture where
  width : Nat
  height : Nat
  pixels : List RGB
  deriving DecidableEq, Repr

/-- What link `l` sends of a scan: its rectangle of the canvas, rows from the top and each row from the left; nothing
when it was disabled at the FRAME (R46). -/
def ScanRecord.linkPicture (sc : ScanRecord) (l : LinkNo) : Option LinkPicture :=
  let k := sc.links[l]
  if k.enabled then
    some ⟨k.width, k.height,
      (List.range k.height).flatMap fun j => (List.range k.width).map fun i => sc.linkPixel l (k.x + i) (k.y + j)⟩
  else none

/-- The output of a wall link while a scan runs. -/
def State.wallOutput (s : State) (l : LinkNo) : Option LinkPicture := s.wall.scan.bind fun sc => sc.linkPicture l

/-! ### Luminance -/

/-- The luma of a pixel, 0-255 (R49). -/
def RGB.luma (c : RGB) : Nat := (54 * c.r + 183 * c.g + 19 * c.b + 128) / 256

/-- f(lo) + f(lo+1) + … over `n` values. -/
def sumFrom (f : Nat → Nat) : Nat → Nat → Nat
  | _, 0 => 0
  | lo, n + 1 => f lo + sumFrom f (lo + 1) n

/-- The sum of `f` over the canvas pixels whose covering window is window `i` of the new picture (R49): they lie in its
rectangle, so only that is gone through. -/
def ScanRecord.sumCovered (sc : ScanRecord) (i : WindowNo) (f : Nat → Nat → Nat) : Nat :=
  let r := sc.new.windows[i]
  if r.enabled then
    sumFrom (fun y => sumFrom (fun x => if sc.new.covering x y = some i then f x y else 0)
      r.x0 (min r.x1 7679 + 1 - r.x0)) r.y0 (min r.y1 2159 + 1 - r.y0)
  else 0

/-- The pixel count n of window `i` (R49). -/
def ScanRecord.pixelCount (sc : ScanRecord) (i : WindowNo) : Nat := sc.sumCovered i fun _ _ => 1

/-- The luma sum of window `i` (R49). -/
def ScanRecord.lumaSum (sc : ScanRecord) (i : WindowNo) : Nat := sc.sumCovered i fun x y => (sc.canvas x y).luma

/-- The filter: a quarter of the way toward the new measurement when the window covers a pixel (R50). -/
def filterLum (old sum n : Nat) : Nat := if n = 0 then old else (3 * old + sum * 16 / n + 2) / 4

/-- The end of the scan under way: the 32 filtered luminances and the pixel counts are updated when the frame is
measured and hold when it is not (R50 to R52). -/
def State.finishScan (s : State) : State :=
  match s.wall.scan with
  | none => s
  | some sc =>
    if sc.measured then
      { s with wall := { s.wall with
          lum := tab fun i => filterLum s.wall.lum[i] (sc.lumaSum i) (sc.pixelCount i)
          count := tab fun i => sc.pixelCount i
          scan := none } }
    else { s with wall := { s.wall with scan := none } }

/-! ### Commands -/

/-- SOURCE_FRAME_COMPLETE (R34): a whole frame with a raster that fits becomes the port's arrived frame, replacing one
not yet taken; any other frame is discarded without a change. -/
def execSourceFrameComplete (p : SourceNo) (f : Sys2Proof.SourceFrame) (s : State) :
    Host.Outcome State Fault Refusal :=
  if rasterFits f && rasterWhole f then
    .next { s with wall := { s.wall with
      sources := updAt s.wall.sources p fun q => { q with arrived := some f } } }
  else .next s

/-- SOURCE_FRAME_DISCARD (R34): a frame with a bad raster size, or one cut off by the next, is discarded; the arrived
frame, the port state and the hold count stay as they were. -/
def execSourceFrameDiscard (_ : SourceNo) (s : State) : Host.Outcome State Fault Refusal := .next s

/-- SCAN_END (R50). -/
def execScanEnd (s : State) : Host.Outcome State Fault Refusal := .next s.finishScan

/-! ### Requests taken -/

/-- SET_SOURCE(port, hold limit) (R36). -/
def takeSetSource (payload : List Byte) (s : State) : Answer :=
  match payload with
  | [p, h1, h0] =>
    withFields s (index 4 p.toNat) fun p =>
      okay { s with wall := { s.wall with
        sources := updAt s.wall.sources p fun q => { q with holdLimit := clampNat 0 255 (be16 h1 h0) } } }
  | _ => refuse s .format

/-- SET_TRANSITION(set, duration, curve) (R42). -/
def takeSetTransition (payload : List Byte) (s : State) : Answer :=
  match payload with
  | [n, pres, d1, d0, c] =>
    let fields := both
      (both (needFormat (decide (1 ≤ pres.toNat ∧ pres.toNat < 4) && (pres.getLsbD 0 || allZero [d1, d0])))
        (if pres.getLsbD 1 then (orFormat (curve? c)).map some else (needFormat (allZero [c])).map fun _ => none))
      (index 4 n.toNat)
    withFields s fields fun ((_, curve), n) =>
      okay { s with wall := { s.wall with
        sets := updAt s.wall.sets n fun t =>
          { duration := if pres.getLsbD 0 then clampNat 1 255 (be16 d1 d0) else t.duration
            curve := curve.getD t.curve } } }
  | _ => refuse s .format

/-- A wall link rectangle brought into range in the order of R45. -/
def WallLink.setRect (k : WallLink) (x y w h : Nat) : WallLink :=
  let x' := clampNat 0 7679 x
  let y' := clampNat 0 2159 y
  { k with x := x', y := y', width := clampNat 1 (7680 - x') w, height := clampNat 1 (2160 - y') h }

/-- SET_WALL_LINK(link, fields) (R45). -/
def takeSetWallLink (payload : List Byte) (s : State) : Answer :=
  match payload with
  | [n, pres, x1, x0, y1, y0, w1, w0, h1, h0, b1, b0, en] =>
    let fields := both
      (both
        (needFormat (decide (1 ≤ pres.toNat ∧ pres.toNat < 8)
          && (pres.getLsbD 0 || allZero [x1, x0, y1, y0, w1, w0, h1, h0]) && (pres.getLsbD 1 || allZero [b1, b0])))
        (if pres.getLsbD 2 then (orFormat (flag? en)).map some else (needFormat (allZero [en])).map fun _ => none))
      (index 4 n.toNat)
    withFields s fields fun ((_, on), n) =>
      okay { s with wall := { s.wall with
        links := updAt s.wall.links n fun k =>
          let k := if pres.getLsbD 0 then k.setRect (be16 x1 x0) (be16 y1 y0) (be16 w1 w0) (be16 h1 h0) else k
          let k := if pres.getLsbD 1 then { k with brightness := clampNat 0 256 (be16 b1 b0) } else k
          { k with enabled := on.getD k.enabled } } }
  | _ => refuse s .format

end Sys2Proof.Machine
end

