-- ==== Sys2Proof/Machine/LevelEngine.lean ====
section
/-! DEFINITION. Level Engine (spec/04_the_level_engine.md): the eight stages of a computation, what levels-ready leaves
in the engine, and the requests SET_PATCH and CLEAR_CLIP. -/

namespace Sys2Proof.Machine

/-- The set of the members for which `f` holds: bit n for member n (R191). -/
def setOf {n : Nat} (f : Fin n → Bool) : BitVec n :=
  (List.finRange n).foldl (fun m i => if f i then m ||| BitVec.twoPow n i.val else m) 0

/-! ### Stage 1: effective target (R62) -/

/-- The effective target of channel `n` with its source. -/
def Computation.target (c : Computation) (n : ChannelNo) : Nat × LevelSource :=
  match c.safety, (c.patch[n]).safety with
  | true, some v => (v, .safety)
  | _, _ =>
    match overrideInForce c.overrides (.channel n) with
    | some ⟨l, .channel _ v _, _⟩ => (v, .override l)
    | _ => ((c.channels[n]).level, .bank)

/-- The fade of the override entry in force for channel `n`. -/
def Computation.entryFade (c : Computation) (n : ChannelNo) : Nat :=
  match overrideInForce c.overrides (.channel n) with
  | some ⟨_, .channel _ _ d, _⟩ => d
  | _ => 0

/-! ### Stage 2: fades (R64, R65) -/

/-- The duration and curve of a restart, by the source before and the source now: the table of R64. -/
def Computation.restartFade (c : Computation) (n : ChannelNo) (before now : LevelSource) : Nat × Curve :=
  match before, now with
  | .safety, _ => (c.safetyFade, .linear)
  | _, .safety => (c.safetyFade, .linear)
  | .bank, .bank => ((c.channels[n]).fade, (c.channels[n]).curve)
  | .bank, .override _ => (c.entryFade n, .linear)
  | .override l, .override l' => (if l ≤ l' then c.entryFade n else c.releaseFade, .linear)
  | .override _, .bank => (c.releaseFade, .linear)

/-- The base of a fade from `start` to `target` at frame `k` of `n` (R65). -/
def fadeBase (start target n k : Nat) (curve : Curve) : Nat :=
  if n = 0 then target
  else ((start : Int) + (((target : Int) - start) * curve.weight k n + 32768) / 65536).toNat

/-- Stage 2 of channel `n`: the restart, if the target or the source changed, and one frame of the fade. -/
def Computation.fade (c : Computation) (n : ChannelNo) (ctx : FadeContext) : FadeContext :=
  let now := c.target n
  let ctx1 : FadeContext :=
    if ctx.target = now.1 ∧ ctx.source = now.2 then ctx
    else
      let how := c.restartFade n ctx.source now.2
      { start := ctx.base, target := now.1, frames := how.1, k := 0, curve := how.2, source := now.2,
        base := ctx.base }
  let k := if ctx1.k < ctx1.frames then ctx1.k + 1 else ctx1.k
  { ctx1 with k := k, base := fadeBase ctx1.start ctx1.target ctx1.frames k ctx1.curve }

/-! ### Stages 3 to 7 (R67 to R71) -/

/-- Stage 3: the follow term F. -/
def followTerm (p : PatchRec) (source : LevelSource) (lum : Vector Nat 32) : Int :=
  match source, p.follow with
  | .safety, _ => 0
  | _, none => 0
  | _, some w => p.gain * ((lum[w] : Int) - p.reference) / 16

/-- Stage 4: the sum V of base and follow term brought into 0-65535. -/
def sumLevel (base : Nat) (f : Int) : Nat := (clampInt 0 65535 ((base : Int) + f)).toNat

/-- Stage 4: the sum left the range of a level. -/
def saturates (base : Nat) (f : Int) : Bool := decide ((base : Int) + f < 0 ∨ 65535 < (base : Int) + f)

/-- Stage 5: the master, which does not dim the safety lighting. -/
def mastered (v m : Nat) (source : LevelSource) : Nat :=
  match source with
  | .safety => v
  | _ => (v * m + 128) / 256

/-- Stage 7: the output curve. -/
def OutCurve.shape (c : OutCurve) (v : Nat) : Nat :=
  match c with
  | .linear => v
  | .square => (v * v + 32767) / 65535

/-- Stages 3 to 7 of channel `n` on the context that stage 2 left. -/
def Computation.output (c : Computation) (n : ChannelNo) (ctx : FadeContext) : ChannelResult :=
  let p := c.patch[n]
  let f := followTerm p ctx.source c.lum
  let v := mastered (sumLevel ctx.base f) c.masters[p.group] ctx.source
  ⟨p.curve.shape (min v p.limit), saturates ctx.base f⟩

/-! ### Stage 8: rendering (R72) -/

/-- The channel of the patch occupies a slot of a line (R54). -/
def PatchRec.occupies (p : PatchRec) (l : LineNo) (slot : Nat) : Bool :=
  decide (p.line = some l) && (p.slot == slot || (p.width == 2 && p.slot + 1 == slot))

/-- The last slot that a patched channel occupies. -/
def PatchRec.lastSlot (p : PatchRec) : Nat := if p.width = 2 then p.slot + 1 else p.slot

/-- What a channel with output `out` writes into a slot that it occupies. -/
def PatchRec.slotByte (p : PatchRec) (out slot : Nat) : Byte :=
  if p.width = 2 then
    if decide (p.slot = slot) != p.fineFirst then BitVec.ofNat 8 (out / 256) else BitVec.ofNat 8 out
  else BitVec.ofNat 8 (out / 256)

/-- The value of a slot of a line: the output of the channel that occupies it, or 0. -/
def slotValue (patch : Vector PatchRec 1024) (results : Vector ChannelResult 1024) (l : LineNo) (slot : Nat) : Byte :=
  match (List.finRange 1024).find? fun n => (patch[n]).occupies l slot with
  | some n => (patch[n]).slotByte (results[n]).out slot
  | none => 0

/-- The slot image of a line: slots 1 to 512. -/
def slotImage (patch : Vector PatchRec 1024) (results : Vector ChannelResult 1024) (l : LineNo) : List Byte :=
  (List.range 512).map fun i => slotValue patch results l (i + 1)

/-! ### What levels-ready leaves in the engine (R59, R61) -/

/-- The fade contexts that stage 2 of the computation produced. -/
def Computation.contexts (c : Computation) (old : Vector FadeContext 1024) : Vector FadeContext 1024 :=
  tab fun n => c.fade n old[n]

/-- The outputs and saturations of the computation on the contexts of its stage 2. -/
def Computation.results (c : Computation) (new : Vector FadeContext 1024) : Vector ChannelResult 1024 :=
  tab fun n => c.output n new[n]

/-- How many channels of group `g` saturated. -/
def clipsOf (patch : Vector PatchRec 1024) (results : Vector ChannelResult 1024) (g : GroupNo) : Nat :=
  ((List.finRange 1024).filter fun n => (results[n]).saturated && decide ((patch[n]).group = g)).length

/-- The clip flags and counters after a computation, and the groups whose flags went from clear to set. -/
def LevelEngine.clip (e : LevelEngine) (patch : Vector PatchRec 1024) (results : Vector ChannelResult 1024) :
    LevelEngine × GroupSet :=
  let hit := setOf fun g => decide (0 < clipsOf patch results g)
  ({ e with
      clipFlags := e.clipFlags ||| hit
      clipCounts := tab fun g => min 65535 (e.clipCounts[g] + clipsOf patch results g) },
   hit &&& ~~~e.clipFlags)

/-- Levels-ready up to step 3 of R61: contexts, last outputs and clip state, with CLIPPED. -/
def State.finishLevels (s : State) (c : Computation) : State :=
  let contexts := c.contexts s.level.contexts
  let results := c.results contexts
  let clip := s.level.clip c.patch results
  let s1 := { s with level := { clip.1 with contexts := contexts, results := results, comp := none } }
  if clip.2 = 0 then s1 else s1.raiseRouted (.clipped clip.2 c.frame)

/-- Computation N starts at FRAME N: it takes its inputs together (R60). Call it after the Scene Memory's step. -/
def State.startComputation (s : State) : State :=
  let c : Computation :=
    { frame := s.ref.counter
      channels := (s.scene.bank s.scene.program).channels
      overrides := s.takeover.overrides
      safety := s.takeover.inForce
      safetyFade := s.takeover.safetyFade
      releaseFade := s.level.releaseFade
      masters := s.level.masters
      patch := s.level.patch
      lum := s.wall.lum }
  { s with level := { s.level with comp := some c } }

/-! ### Requests taken -/

/-- The numbers and widths of the six field groups of a patch record (spec/12_formats.md 12.4). -/
def patchGroups : List (Nat × Nat) := [(0, 5), (1, 1), (2, 2), (3, 1), (4, 5), (5, 3)]

/-- The bytes of each carried patch field group, when the length fits the mask exactly. -/
def splitPatch (mask : Nat) : List (Nat × Nat) → List Byte → Option (List (Nat × List Byte))
  | [], [] => some []
  | [], _ => none
  | g :: gs, l =>
    if mask.testBit g.1 then
      if g.2 ≤ l.length then (splitPatch mask gs (l.drop g.2)).map fun r => (g.1, l.take g.2) :: r else none
    else splitPatch mask gs l

/-- A byte that is 0xFF for NONE, or an index below `n` (R191). -/
def noneOr (n : Nat) (b : Byte) : Except ReplyCode (Option (Fin n)) :=
  if b = 0xFF then .ok none else (index n b.toNat).map some

/-- What one carried patch field group writes, checked and clamped as R55 states. -/
def patchWrite (g : Nat) (l : List Byte) : Except ReplyCode (PatchRec → PatchRec) :=
  match g, l with
  | 0, [line, s1, s0, w, ff] =>
    let slot := be16 s1 s0
    match both (both (needFormat (w = 1 || w = 2)) (orFormat (flag? ff)))
        (both (noneOr 8 line) (needRange (decide (1 ≤ slot ∧ slot ≤ 512) && !(w = 2 && slot = 512)))) with
    | .ok ((_, fine), (line, _)) => .ok fun p => { p with line, slot, width := w.toNat, fineFirst := fine }
    | .error c => .error c
  | 1, [b] => (orFormat (outCurve? b)).map fun c p => { p with curve := c }
  | 2, [h, lo] => .ok fun p => { p with limit := be16 h lo }
  | 3, [b] => (index 16 b.toNat).map fun g p => { p with group := g }
  | 4, [w, g1, g0, r1, r0] =>
    (noneOr 32 w).map fun w p =>
      { p with follow := w, gain := clampInt (-512) 511 (be16s g1 g0), reference := clampNat 0 4080 (be16 r1 r0) }
  | 5, [pres, h, lo] =>
    match flag? pres with
    | none => .error .format
    | some true => .ok fun p => { p with safety := some (be16 h lo) }
    | some false => (needFormat (allZero [h, lo])).map fun _ p => { p with safety := none }
  | _, _ => .error .format

/-- Two patched channels occupy a slot in common. -/
def PatchRec.overlaps (p q : PatchRec) : Bool :=
  p.line.isSome && decide (p.line = q.line) && decide (p.slot ≤ q.lastSlot ∧ q.slot ≤ p.lastSlot)

/-- A record for channel `n` would occupy a slot of another channel or one above its line's slot count (R55). -/
def State.patchConflict (s : State) (n : ChannelNo) (p : PatchRec) : Bool :=
  match p.line with
  | none => false
  | some l =>
    decide ((s.lines[l]).slots < p.lastSlot) ||
      (List.finRange 1024).any fun m => decide (m ≠ n) && p.overlaps s.level.patch[m]

/-- SET_PATCH(channel, fields) (R55). -/
def takeSetPatch (payload : List Byte) (s : State) : Answer :=
  match payload with
  | c1 :: c0 :: mask :: rest =>
    match splitPatch mask.toNat patchGroups rest with
    | none => refuse s .format
    | some groups =>
      let fields := both (both (needFormat (decide (1 ≤ mask.toNat ∧ mask.toNat < 64)))
        (everyOk (groups.map fun g => patchWrite g.1 g.2))) (index 1024 (be16 c1 c0))
      withFields s fields fun ((_, writes), n) =>
        let p := writes.foldl (fun p w => w p) s.level.patch[n]
        if s.patchConflict n p then refuse s .conflict
        else okay { s with level := { s.level with patch := s.level.patch.set n p } }
  | _ => refuse s .format

/-- CLEAR_CLIP (R59). -/
def takeClearClip (payload : List Byte) (s : State) : Answer :=
  match payload with
  | [] => okay { s with level := { s.level with clipFlags := 0, clipCounts := Vector.replicate 16 0 } }
  | _ => refuse s .format

end Sys2Proof.Machine
end

