-- ==== Sys2Proof/Machine/LightingLines.lean ====
section
/-! DEFINITION. Line Drivers (spec/05_lighting_lines.md): what a line does at levels-ready and at the end of a packet,
the packet as it is sent, LEVELS_READY whole, and the request SET_LINE. -/

namespace Sys2Proof.Machine

/-! ### Sending -/

/-- A packet starts from one computation (R81): the record and the first slot-count values are copied. -/
def Line.startPacket (l : Line) (frame : Frame) (image : List Byte) : Line :=
  { l with
    inFlight := some { frame, slots := l.slots, breakLen := l.breakLen, values := image.take l.slots }
    waiting := none }

/-- A line acts on computation `frame` at its levels-ready (R82), with the skipped frame and the skip count after it
when LINE_SKIP is raised (R85). -/
def Line.levelsReady (l : Line) (frame : Frame) (image : List Byte) : Line × Option (Frame × Nat) :=
  match l.enabled, l.inFlight, l.waiting with
  | false, _, _ => (l, none)
  | true, none, _ => (l.startPacket frame image, none)
  | true, some _, none => ({ l with waiting := some ⟨frame, image⟩ }, none)
  | true, some _, some m =>
    ({ l with waiting := some ⟨frame, image⟩, skips := satSucc 65535 l.skips, skipArmed := false },
     if l.skipArmed then some (m.frame, satSucc 65535 l.skips) else none)

/-- A line acts on the end of its packet (R83); a line with no packet in flight has none to end. -/
def Line.packetEnd (l : Line) : Line :=
  match l.inFlight with
  | none => l
  | some f =>
    let l1 := { l with lastPacket := some f.frame, inFlight := none }
    match l.enabled, l.waiting with
    | true, some w => l1.startPacket w.frame w.image
    | _, _ => l1

/-! ### The packet as it is sent (R79, 12.8) -/

/-- The level of a lighting line. -/
inductive LineLevel where
  | low
  | high
  deriving DecidableEq, Repr

/-- A level that a line holds for a time in microseconds. -/
structure Pulse where
  level : LineLevel
  micros : Nat
  deriving DecidableEq, Repr

/-- The bytes of a packet after its break and mark: the start code and the slots (R79). -/
def InFlight.bytes (f : InFlight) : List Byte := 0 :: f.values

/-- One bit at 250 kbit/s: 4 microseconds, high for a 1 (R79; PRESUMED, log entry 38). -/
def bitPulse (b : Bool) : Pulse := ⟨if b then .high else .low, 4⟩

/-- One byte of a packet: start bit, eight data bits with the least significant first, two stop bits (R79). -/
def bytePulses (b : Byte) : List Pulse := (uartBits 2 b).map bitPulse

/-- A packet on its line: the break held low for its length, the mark-after-break held high for 12 microseconds, the
start code and the slots, with no gap between them (R79). -/
def InFlight.pulses (f : InFlight) : List Pulse := ⟨.low, f.breakLen⟩ :: ⟨.high, 12⟩ :: f.bytes.flatMap bytePulses

/-- How long pulses last together. -/
def pulsesLast (l : List Pulse) : Nat := (l.map Pulse.micros).sum

/-- How long a packet lasts, in microseconds: break, 12, and 44 for each byte (R79). -/
def packetDuration (slots breakLen : Nat) : Nat := breakLen + 12 + (slots + 1) * 44

/-- The level of a line at a time after pulses began; after the last of them it rests high (R79). -/
def levelAt : List Pulse → Nat → LineLevel
  | [], _ => .high
  | p :: l, t => if t < p.micros then p.level else levelAt l (t - p.micros)

/-- The level of a line `t` microseconds after its packet began; a line with no packet rests high (R79, R83). -/
def Line.level (l : Line) (t : Nat) : LineLevel :=
  match l.inFlight with
  | some f => levelAt f.pulses t
  | none => .high

/-! ### Levels-ready whole, and the commands -/

/-- The LINE_SKIP alerts of this levels-ready, with their destinations. -/
def lineSkipAlerts (s : State) (lines : Vector Line 8) (frame : Frame) (images : LineNo → List Byte) :
    List (PortSet × Alert) :=
  (List.finRange 8).filterMap fun i =>
    ((lines[i]).levelsReady frame (images i)).2.map fun x =>
      (s.routingSet (.lineSkip i x.1 x.2), .lineSkip i x.1 x.2)

/-- Levels-ready of the computation under way, whole (R61): the engine's own update, and then the slot images handed to
the eight lines. Nothing happens while no computation runs (DESIGN CHOICE, log entry 4). -/
def State.levelsReady (s : State) : State :=
  match s.level.comp with
  | none => s
  | some c =>
    let s1 := s.finishLevels c
    let images := fun l => slotImage c.patch s1.level.results l
    let before := s1.lines
    let s2 := { s1 with lines := tab fun i => ((before[i]).levelsReady c.frame (images i)).1 }
    s2.raiseTogether (lineSkipAlerts s2 before c.frame images)

/-- LEVELS_READY (R61). -/
def execLevelsReady (s : State) : Host.Outcome State Fault Refusal := s.levelsReady.done

/-- PACKET_END (R83). -/
def execPacketEnd (l : LineNo) (s : State) : Host.Outcome State Fault Refusal := .next (s.modLine l Line.packetEnd)

/-! ### Requests taken -/

/-- The highest slot that a channel occupies on a line, or 0 (R80). -/
def highestSlot (patch : Vector PatchRec 1024) (l : LineNo) : Nat :=
  patch.toList.foldl (fun m p => if p.line = some l then max m p.lastSlot else m) 0

/-- What a SET_LINE stores in the line record; a disable discards the waiting computation (R80, R84). -/
def Line.configure (l : Line) (enabled : Option Bool) (slots breakLen : Option Nat) : Line :=
  let l1 := { l with
    enabled := enabled.getD l.enabled
    slots := slots.getD l.slots
    breakLen := breakLen.getD l.breakLen }
  if enabled = some false then { l1 with waiting := none } else l1

/-- SET_LINE(line, fields) (R80). -/
def takeSetLine (payload : List Byte) (s : State) : Answer :=
  match payload with
  | [line, pres, en, s1, s0, b1, b0] =>
    let fields := both
      (both
        (needFormat (decide (1 ≤ pres.toNat ∧ pres.toNat < 8) && (pres.getLsbD 1 || allZero [s1, s0])
          && (pres.getLsbD 2 || allZero [b1, b0])))
        (if pres.getLsbD 0 then (orFormat (flag? en)).map some else (needFormat (allZero [en])).map fun _ => none))
      (index 8 line.toNat)
    withFields s fields fun ((_, enabled), l) =>
      let slots := if pres.getLsbD 1 then some (clampNat 24 512 (be16 s1 s0)) else none
      let breakLen := if pres.getLsbD 2 then some (clampNat 88 1000 (be16 b1 b0)) else none
      let conflict := match slots with
        | some n => decide (n < highestSlot s.level.patch l)
        | none => false
      if conflict then refuse s .conflict
      else okay (s.modLine l fun x => x.configure enabled slots breakLen)
  | _ => refuse s .format

end Sys2Proof.Machine
end

