-- ==== Sys2Proof/Machine/Shot.lean ====
section
/-! DEFINITION. Tally Unit (spec/09_shot_protection.md): the in-shot sets, the guards, the deferred queue with its
application step, and the requests SET_SHOT_MAP and SET_GUARD. -/

namespace Sys2Proof.Machine

/-! ### In shot (R157 to R159) -/

/-- The union of the sets that `f` takes from the shot map entries of the ACTIVE lines. -/
def activeUnion {n : Nat} (lines : BitVec 16) (shotMap : Vector ShotEntry 16) (f : ShotEntry → BitVec n) : BitVec n :=
  (List.finRange 16).foldl (fun m i => if lines.getLsbD i.val then m ||| f shotMap[i] else m) 0

/-- The sample of a FRAME and the in-shot sets that follow from it. -/
def TallyUnit.sample (t : TallyUnit) (levels : BitVec 16) : TallyUnit :=
  { t with
    lines := levels
    inShotWindows := activeUnion levels t.shotMap ShotEntry.windows
    inShotGroups := activeUnion levels t.shotMap ShotEntry.groups }

/-- The guard mode of an item that is in shot; none while the item is not in shot (R159, R160). -/
def State.shotGuard (s : State) : GuardedItem → Option Guard
  | .window w => if s.tally.inShotWindows.getLsbD w.val then some s.tally.windowGuards[w] else none
  | .channel n =>
    let g := (s.level.patch[n]).group
    if s.tally.inShotGroups.getLsbD g.val then some s.tally.groupGuards[g] else none
  | .master g => if s.tally.inShotGroups.getLsbD g.val then some s.tally.groupGuards[g] else none

/-! ### Guarded writes (R161 to R163) -/

/-- The item that a write names. -/
def ItemWrite.item : ItemWrite → GuardedItem
  | .channel _ n _ _ _ => .channel n
  | .window _ w _ => .window w
  | .master g _ => .master g

/-- The number of a guarded item within its kind. -/
def GuardedItem.number : GuardedItem → Nat
  | .window w => w.val
  | .channel n => n.val
  | .master g => g.val

/-- What a write of an item writes, as GUARD_ALERT reports it. -/
def ItemWrite.kind : ItemWrite → WriteKind
  | .master _ _ => .master
  | _ => .bank

/-- The guard that a write is checked against, or none when it is not guarded: a write to the preset bank is not, and
neither is a write of an item out of shot (R161). -/
def State.guardOf (s : State) (w : ItemWrite) : Option Guard :=
  match w.bank with
  | some bank => if bank = s.scene.program then s.shotGuard w.item else none
  | none => s.shotGuard w.item

/-- The lowest-numbered item of a list, the first of equals (R163). -/
def lowestItem : List GuardedItem → Option GuardedItem
  | [] => none
  | i :: l =>
    match lowestItem l with
    | some j => if j.number < i.number then some j else some i
    | none => some i

/-- GUARD_ALERT raised once, for the lowest-numbered item of a list that has one (R162, R163). -/
def State.raiseGuardAlert (s : State) (items : List GuardedItem) (writer : Writer) (kind : WriteKind) : State :=
  match lowestItem items with
  | some i =>
    match s.shotGuard i with
    | some g => s.raiseRouted (.guardAlert i g writer kind s.ref.counter)
    | none => s
  | none => s

/-! ### The deferred queue (R164 to R166) -/

/-- Two writes have one key: the same target and bank (R164). -/
def ItemWrite.sameKey (a b : ItemWrite) : Bool := decide (a.target = b.target ∧ a.bank = b.bank)

/-- One deferred item joins the queue: an entry of its key is replaced in place, and a new key goes to the tail
(R165). -/
def joinQueue (queue : List Deferred) (d : Deferred) : List Deferred :=
  if queue.any fun e => e.write.sameKey d.write then
    queue.map fun e => if e.write.sameKey d.write then d else e
  else queue ++ [d]

/-- A direct write: the item is stored and the entry of its key, if one stands, leaves the queue (R166). -/
def State.directWrite (s : State) (w : ItemWrite) : State :=
  let s1 := s.writeItem w
  { s1 with tally := { s1.tally with queue := s1.tally.queue.filter fun e => !e.write.sameKey w } }

/-- What the shot guard answers of a write. -/
inductive GuardOutcome where
  | guarded
  | queueFull
  /-- Applied and queued as R162 states; `deferred` when at least one item was queued. -/
  | passed (s : State) (deferred : Bool)

/-- A write decided whole by the guards of the items it names in shot (R162): refused, turned away by a full queue, or
done, its deferred items queued and its applied items written at one instant. -/
def State.guardWrite (s : State) (writer : Writer) (ws : List ItemWrite) : GuardOutcome :=
  if ws.any fun w => decide (s.guardOf w = some .refuse) then .guarded
  else
    let held := ws.filter fun w => decide (s.guardOf w = some .defer)
    let applied := ws.filter fun w => !decide (s.guardOf w = some .defer)
    let queue := held.foldl (fun q w => joinQueue q ⟨w, writer⟩) s.tally.queue
    if !held.isEmpty && decide (32 < queue.length) then .queueFull
    else
      let alerting := applied.filter fun w => decide (s.guardOf w = some .alert)
      let s1 := applied.foldl State.directWrite { s with tally := { s.tally with queue := queue } }
      let kind := match ws with
        | w :: _ => w.kind
        | [] => .bank
      .passed (s1.raiseGuardAlert (alerting.map ItemWrite.item) writer kind) (!held.isEmpty)

/-! ### The application step (R167 to R169) -/

/-- Whether an entry is releasable at this instant, and with which cause it is then applied (R167, R168). -/
def State.releasable (s : State) (d : Deferred) : Option DeferCause :=
  let guardMode := match d.write.item with
    | .window w => s.tally.windowGuards[w]
    | .channel n => s.tally.groupGuards[(s.level.patch[n]).group]
    | .master g => s.tally.groupGuards[g]
  let byShot :=
    match (s.shotGuard d.write.item).isSome, decide (guardMode = .defer) with
    | true, true => none
    | true, false => some .guard
    | false, true => some .shot
    | false, false => some (if Config.deferCauseShot s.ref.counter then .shot else .guard)
  match d.write.bank with
  | none => byShot
  | some bank =>
    if bank = s.scene.program then byShot
    else if s.scene.inFlight then none
    else some .preset

/-- The entry is for the port: its origin is the port, or a stack that the port owns (R168). -/
def State.originPort (s : State) (d : Deferred) : Option Port :=
  match d.origin with
  | .port p => some p
  | .stack k => s.access.stackOwner k

/-- DEFER_APPLIED for one destination, when it had at least one entry applied: the count and the last of them. -/
def deferAlert (l : List (Deferred × DeferCause)) (now : Frame) : Option Alert :=
  l.getLast?.map fun x => .deferApplied l.length x.1.write.target x.1.write.bank x.2 now

/-- The DEFER_APPLIED alerts of one application step: one for each port, and one for the routing set, that had an entry
applied (R168). -/
def State.deferAlerts (s : State) (l : List (Deferred × DeferCause)) : List (PortSet × Alert) :=
  let toPorts := (List.finRange 4).filterMap fun p =>
    (deferAlert (l.filter fun x => s.originPort x.1 == some p) s.ref.counter).map fun a => (onlyPort p, a)
  let toRouting := (deferAlert (l.filter fun x => s.originPort x.1 == none) s.ref.counter).map fun a =>
    (s.routingSet a, a)
  toPorts ++ toRouting.toList

/-- The application step of a MARK: every releasable entry is written and removed, oldest first, at one instant. -/
def State.applyDeferred (s : State) : State :=
  let applied := s.tally.queue.filterMap fun d => (s.releasable d).map fun c => (d, c)
  let kept := s.tally.queue.filter fun d => (s.releasable d).isNone
  let s1 := applied.foldl (fun s x => s.writeItem x.1.write) s
  let s2 := { s1 with tally := { s1.tally with queue := kept } }
  s2.raiseTogether (s.deferAlerts applied)

/-! ### Requests taken -/

/-- SET_SHOT_MAP(line, windows, groups) (R158). -/
def takeSetShotMap (payload : List Byte) (s : State) : Answer :=
  match payload with
  | [line, w3, w2, w1, w0, g1, g0] =>
    withFields s (index 16 line.toNat) fun l =>
      okay { s with tally := { s.tally with
        shotMap := s.tally.shotMap.set l ⟨be32 w3 w2 w1 w0, BitVec.ofNat 16 (be16 g1 g0)⟩ } }
  | _ => refuse s .format

/-- SET_GUARD(kind, set, mode) (R160). -/
def takeSetGuard (payload : List Byte) (s : State) : Answer :=
  match payload with
  | [kind, m3, m2, m1, m0, mode] =>
    let set := be32 m3 m2 m1 m0
    match guard? mode with
    | none => refuse s .format
    | some g =>
      if set = 0 then refuse s .format
      else if kind = 0 then
        okay { s with tally := { s.tally with
          windowGuards := tab fun w => if set.getLsbD w.val then g else s.tally.windowGuards[w] } }
      else if kind = 1 && set.toNat < 65536 then
        okay { s with tally := { s.tally with
          groupGuards := tab fun w => if set.getLsbD w.val then g else s.tally.groupGuards[w] } }
      else refuse s .format
  | _ => refuse s .format

end Sys2Proof.Machine
end

