-- ==== Sys2Proof/Machine/Access.lean ====
section
/-! DEFINITION. Access Unit (spec/08_roles_claims_and_handover.md): the checks it makes on a request, the claim table,
handovers and their step at a FRAME, and the requests that name roles, pages, locks and claims. -/

namespace Sys2Proof.Machine

/-! ### The checks on a request (R136, R139, R140) -/

/-- The codes of the engineering requests (R136, spec/12_formats.md 12.2). -/
def engineering (code : Byte) : Bool :=
  code = 0x17 || code = 0x18 || (decide (0x1A ≤ code.toNat) && decide (code.toNat ≤ 0x27))

/-- A set lock governs the request: SET_PATCH under the patch lock, SET_SHOT_MAP and SET_GUARD under the shot lock. -/
def AccessUnit.lockedOut (a : AccessUnit) (code : Byte) : Bool :=
  (a.patchLock && code = 0x1C) || (a.shotLock && (code = 0x1A || code = 0x1B))

/-- The channels first to last that exist, as items. -/
def channelItems (first last : Nat) : List Item :=
  ((List.range (last + 1 - first)).map (· + first)).filterMap fun n =>
    if h : n < 1024 then some (.channel ⟨n, h⟩) else none

/-- The items that the pairs of a SET_LEVELS_SHORT address through a page (R138). -/
def pairItems (page : Fin 4) : List Byte → List Item
  | short :: _ :: _ :: rest => channelItems (page.val * 256 + short.toNat) (page.val * 256 + short.toNat) ++
      pairItems page rest
  | _ => []

/-- A stack number as an item, when it exists. -/
def stackItem (b : Byte) : List Item := if h : b.toNat < 8 then [.stack ⟨b.toNat, h⟩] else []

/-- The items that a request names (R142, R146): those whose fields its payload carries (DEDUCED, log entry 10). An
item out of range is covered by no claim, so none is listed for it. -/
def State.itemsNamed (s : State) (p : Port) (code : Byte) (payload : List Byte) : List Item :=
  if code = 0x04 then
    match payload with
    | _ :: f1 :: f0 :: l1 :: l0 :: _ => channelItems (be16 f1 f0) (be16 l1 l0)
    | _ => []
  else if code = 0x05 then pairItems s.access.pages[p] (payload.drop 3)
  else if code = 0x06 then
    match payload with
    | _ :: w :: _ => if h : w.toNat < 32 then [.window ⟨w.toNat, h⟩] else []
    | _ => []
  else if code = 0x08 then
    match payload with
    | g :: _ => if h : g.toNat < 16 then [.group ⟨g.toNat, h⟩] else []
    | _ => []
  else if code = 0x12 then
    match payload with
    | l :: _ => ((s.takeover.holder l.toNat).map Item.stack).toList
    | _ => []
  else if 0x0B ≤ code.toNat ∧ code.toNat ≤ 0x11 then
    match payload with
    | k :: _ => stackItem k
    | _ => []
  else []

/-- The Access Unit's checks in their order: ROLE, LOCKED, DENIED with the id of the covering claim (R140, R144). -/
def State.accessCheck (s : State) (p : Port) (code : Byte) (payload : List Byte) : Option Answer :=
  if engineering code && decide (s.access.roles[p] = .operator) then some (refuse s .role)
  else if s.access.lockedOut code then some (refuse s .locked)
  else
    (s.access.denyingClaim (some p) (s.itemsNamed p code payload)).map fun id => ⟨.denied, u8 id.val, s⟩

/-! ### Roles, pages and locks -/

/-- SET_ROLE(port, role) (R137). -/
def takeSetRole (payload : List Byte) (s : State) : Answer :=
  match payload with
  | [q, r] =>
    withFields s (both (orFormat (portRole? r)) (index 4 q.toNat)) fun (role, q) =>
      let others := (List.finRange 4).any fun i => decide (i ≠ q ∧ s.access.roles[i] = .engineering)
      if decide (role = .operator ∧ s.access.roles[q] = .engineering) && !others then refuse s .lastEngineer
      else okay { s with access := { s.access with roles := s.access.roles.set q role } }
  | _ => refuse s .format

/-- SET_PAGE(page), for the port that sends it (R138). -/
def takeSetPage (p : Port) (payload : List Byte) (s : State) : Answer :=
  match payload with
  | [n] =>
    withFields s (index 4 n.toNat) fun n =>
      okay { s with access := { s.access with pages := s.access.pages.set p n } }
  | _ => refuse s .format

/-- LOCK(PATCH) and LOCK(SHOT) (R139). -/
def takeLock (payload : List Byte) (s : State) : Answer :=
  match payload with
  | [l] =>
    if l = 0 then okay { s with access := { s.access with patchLock := true } }
    else if l = 1 then okay { s with access := { s.access with shotLock := true } }
    else refuse s .format
  | _ => refuse s .format

/-! ### The claim table (R141 to R150) -/

/-- Two ranges share an item (R142). -/
def ClaimRange.shares : ClaimRange → ClaimRange → Bool
  | .channels f l, .channels f' l' => decide (f ≤ l' ∧ f' ≤ l)
  | .windows a, .windows c => decide (a &&& c ≠ 0)
  | .group g, .group h => g == h
  | .stack k, .stack j => k == j
  | _, _ => false

/-- The kind and range of a CLAIM as carried (R143). -/
def claimRange (kind : Byte) (l : List Byte) : Except ReplyCode ClaimRange :=
  match kind.toNat, l with
  | 0, [f1, f0, l1, l0] =>
    match both (needFormat (decide (be16 f1 f0 ≤ be16 l1 l0))) (both (index 1024 (be16 f1 f0)) (index 1024 (be16 l1 l0))) with
    | .ok (_, (f, l)) => .ok (.channels f l)
    | .error c => .error c
  | 1, [w3, w2, w1, w0] =>
    if be32 w3 w2 w1 w0 = 0 then .error .format else .ok (.windows (be32 w3 w2 w1 w0))
  | 2, [g] => (index 16 g.toNat).map .group
  | 3, [k] => (index 8 k.toNat).map .stack
  | _, _ => .error .format

/-- A new claim of `p` over a range would conflict: with a claim of another owner, or with a CONTESTED claim of `p`
(R143). -/
def AccessUnit.claimConflict (a : AccessUnit) (p : Port) (r : ClaimRange) : Bool :=
  a.claims.toList.any fun e => match e with
    | some c => c.range.shares r && (decide (c.owner ≠ p) || c.contest.isSome)
    | none => false

/-- The free entry of lowest id (R141). -/
def AccessUnit.freeClaim (a : AccessUnit) : Option ClaimId :=
  (List.finRange 64).find? fun id => (a.claims[id]).isNone

/-- CLAIM(kind, range, auto-yield) (R143). -/
def takeClaim (p : Port) (payload : List Byte) (s : State) : Answer :=
  match payload with
  | kind :: auto :: rest =>
    withFields s (both (orFormat (flag? auto)) (claimRange kind rest)) fun (auto, r) =>
      if s.access.claimConflict p r then refuse s .conflict
      else match s.access.freeClaim with
        | none => refuse s .noSpace
        | some id => ⟨.ok, u8 id.val, s.setClaim id (some ⟨p, r, auto, none⟩)⟩
  | _ => refuse s .format

/-- A CONTESTED claim moves to the port that waits for it (R150, steps 1 to 3). -/
def State.transfer (s : State) (id : ClaimId) (c : Claim) (w : Contest) (cause : GrantCause) : State :=
  (s.setClaim id (some { c with owner := w.waiting, contest := none })).raiseTo (onlyPort w.waiting)
    (.handoverGranted id c.owner cause s.ref.counter)

/-- A request that names a claim by its id: RANGE above 63, NOT_FOUND for a free entry (R147 to R150). -/
def withClaim (s : State) (payload : List Byte) (f : ClaimId → Claim → Answer) : Answer :=
  match payload with
  | [b] =>
    withFields s (index 64 b.toNat) fun id =>
      match s.access.claims[id] with
      | none => refuse s .notFound
      | some c => f id c
  | _ => refuse s .format

/-- The refusal of an UNCLAIM or YIELD from a port that does not own the claim: DENIED with the id named (R192). -/
def notOwner (s : State) (id : ClaimId) : Answer := ⟨.denied, u8 id.val, s⟩

/-- UNCLAIM(id) (R147). -/
def takeUnclaim (p : Port) (payload : List Byte) (s : State) : Answer :=
  withClaim s payload fun id c =>
    if c.owner ≠ p then notOwner s id
    else match c.contest with
      | none => okay (s.setClaim id none)
      | some w => okay (s.transfer id c w .unclaimed)

/-- YIELD(id) (R150). -/
def takeYield (p : Port) (payload : List Byte) (s : State) : Answer :=
  withClaim s payload fun id c =>
    if c.owner ≠ p then notOwner s id
    else match c.contest with
      | none => refuse s .notContested
      | some w => okay (s.transfer id c w .yielded)

/-- DROP_CLAIM(id) (R148). -/
def takeDropClaim (payload : List Byte) (s : State) : Answer :=
  withClaim s payload fun id c =>
    let s1 := s.setClaim id none
    match c.contest with
    | none => okay s1
    | some w => okay (s1.raiseTo (onlyPort w.waiting) (.handoverTimeout id .dropped s.ref.counter))

/-- Another claim of the same owner shares an item with claim `id` (R149). -/
def AccessUnit.sharedByOwner (a : AccessUnit) (id : ClaimId) (c : Claim) : Bool :=
  (List.finRange 64).any fun j => match a.claims[j] with
    | some d => decide (j ≠ id ∧ d.owner = c.owner) && d.range.shares c.range
    | none => false

/-- ASK(id) (R149). The owner is looked at first: an ASK by the owner of a CONTESTED claim is answered OK, where R149
states both that and CONTESTED (DEDUCED, log entry 37). -/
def takeAsk (p : Port) (payload : List Byte) (s : State) : Answer :=
  withClaim s payload fun id c =>
    if c.owner = p then okay s
    else if c.contest.isSome then refuse s .contested
    else if s.access.sharedByOwner id c then refuse s .conflict
    else
      let expiry : Frame := s.ref.counter + BitVec.ofNat 32 s.access.timeout
      let s1 := s.setClaim id (some { c with contest := some ⟨p, expiry⟩ })
      ⟨.pending, frameBytes expiry, s1.raiseTo (onlyPort c.owner) (.handoverAsk id p expiry s.ref.counter)⟩

/-! ### The FRAME step of the claims (R151, R152) -/

/-- A stack is neither ARMED nor REPEATING. -/
def StackState.settled : StackState → Bool
  | .armed _ _ => false
  | .repeating _ _ => false
  | _ => true

/-- A claim is free to move at this FRAME, whose readers see the given view of the transition (R151). -/
def State.freeToMove (s : State) (view : FrameView) : ClaimRange → Bool
  | .channels first last =>
    (List.finRange 1024).all fun n =>
      !decide (first ≤ n ∧ n ≤ last) || decide ((s.level.contexts[n]).frames ≤ (s.level.contexts[n]).k)
  | .windows _ => !view.saw
  | .group _ => true
  | .stack k => (s.cue.recs[k]).state.settled

/-- What a claim's step at a FRAME does with it (R152). -/
inductive ClaimStep where
  | stays
  | moves (w : Contest)
  | expires (w : Contest)
  deriving DecidableEq, Repr

/-- The step of one claim at a FRAME. -/
def State.claimStep (s : State) (view : FrameView) (c : Claim) : ClaimStep :=
  match c.contest with
  | none => .stays
  | some w =>
    if c.autoYield && s.freeToMove view c.range then .moves w
    else if w.expiry.isPast s.ref.counter then .expires w
    else .stays

/-- A claim after its step at a FRAME. -/
def Claim.after (c : Claim) : ClaimStep → Claim
  | .stays => c
  | .moves w => { c with owner := w.waiting, contest := none }
  | .expires _ => { c with contest := none }

/-- The step of entry `id` of the claim table at a FRAME; a free entry stays. -/
def State.entryStep (s : State) (view : FrameView) (id : ClaimId) : ClaimStep :=
  match s.access.claims[id] with
  | some c => s.claimStep view c
  | none => .stays

/-- The claims that move at a FRAME, as HANDOVER_GRANTED with its destination. -/
def State.autoGrants (s : State) (view : FrameView) : List (PortSet × Alert) :=
  (List.finRange 64).filterMap fun id =>
    match s.access.claims[id], s.entryStep view id with
    | some c, .moves w => some (onlyPort w.waiting, .handoverGranted id c.owner .auto s.ref.counter)
    | _, _ => none

/-- The handovers that expire at a FRAME, as HANDOVER_TIMEOUT with its destination. -/
def State.expiries (s : State) (view : FrameView) : List (PortSet × Alert) :=
  (List.finRange 64).filterMap fun id =>
    match s.entryStep view id with
    | .expires w => some (onlyPort w.waiting, .handoverTimeout id .expired s.ref.counter)
    | _ => none

/-- Every claim takes its step at a FRAME. -/
def State.stepClaims (s : State) (view : FrameView) : State :=
  let s1 := { s with access := { s.access with
    claims := tab fun id => (s.access.claims[id]).map fun c : Claim => c.after (s.claimStep view c) } }
  (s1.raiseTogether (s.autoGrants view)).raiseTogether (s.expiries view)

/-- SHOW_RESET ends every handover in progress (R155). -/
def State.endHandovers (s : State) : State :=
  let s1 := { s with access := { s.access with
    claims := mapTab (fun e : Option Claim => e.map fun c : Claim => { c with contest := none }) s.access.claims } }
  s1.raiseTogether ((List.finRange 64).filterMap fun id =>
    match s.access.claims[id] with
    | some c => c.contest.map fun w : Contest => (onlyPort w.waiting, Alert.handoverTimeout id .reset s.ref.counter)
    | none => none)

end Sys2Proof.Machine
end

