-- ==== Sys2Proof/Machine/BankRequests.lean ====
section
/-! DEFINITION. The requests that write the banks and the masters: SET_LEVEL, SET_LEVELS_SHORT, SET_WINDOW, SET_FILL,
SET_MASTER, TAKE and COPY (spec/02_scene_banks.md 2.3 to 2.5, R58), with the BUSY check of R29 and the shot guard. -/

namespace Sys2Proof.Machine

/-- A request's write as the shot guard passes it (R162): GUARDED, QUEUE_FULL, DEFERRED when an item was queued, OK
otherwise. -/
def State.writeItems (s : State) (p : Port) (ws : List ItemWrite) : Answer :=
  match s.guardWrite (.port p) ws with
  | .guarded => refuse s .guarded
  | .queueFull => refuse s .queueFull
  | .passed s' held => ⟨if held then .deferred else .ok, [], s'⟩

/-- A write to the preset bank meets a transition in flight (R29). -/
def State.presetBusy (s : State) (role : BankRole) : Bool := decide (role = .preset) && s.scene.inFlight

/-- A bank write whose fields have passed their checks: BUSY by R29, and then the guard. -/
def State.writeBank (s : State) (p : Port) (role : BankRole) (ws : BankName → List ItemWrite) : Answer :=
  if s.presetBusy role then refuse s .busy else s.writeItems p (ws (s.scene.resolve role))

/-- The channels first to last. -/
def channelRange (first last : ChannelNo) : List ChannelNo :=
  (List.finRange 1024).filter fun n => decide (first ≤ n ∧ n ≤ last)

/-- SET_LEVEL(bank, first, last, level, fade, curve) (R20). -/
def takeSetLevel (p : Port) (payload : List Byte) (s : State) : Answer :=
  match payload with
  | [bank, f1, f0, l1, l0, v1, v0, pres, d1, d0, c] =>
    let fields := both
      (both
        (both (orFormat (bankRole? bank))
          (needFormat (decide (be16 f1 f0 ≤ be16 l1 l0) && decide (pres.toNat < 4)
            && (pres.getLsbD 0 || allZero [d1, d0]))))
        (if pres.getLsbD 1 then (orFormat (curve? c)).map some else (needFormat (allZero [c])).map fun _ => none))
      (both (index 1024 (be16 f1 f0)) (index 1024 (be16 l1 l0)))
    withFields s fields fun (((role, _), curve), (first, last)) =>
      let fade := if pres.getLsbD 0 then some (be16 d1 d0) else none
      s.writeBank p role fun bank =>
        (channelRange first last).map fun n => .channel bank n (be16 v1 v0) fade curve
  | _ => refuse s .format

/-- The pairs of a SET_LEVELS_SHORT with the channels they address through a page; none for a partial pair (R21). -/
def shortPairs (page : Fin 4) : List Byte → Option (List (ChannelNo × Nat))
  | [] => some []
  | short :: v1 :: v0 :: rest =>
    (shortPairs page rest).map fun l =>
      (⟨page.val * 256 + short.toNat, by have := page.isLt; have := short.isLt; omega⟩, be16 v1 v0) :: l
  | _ => none

/-- SET_LEVELS_SHORT(bank, fade, pairs) (R21). -/
def takeSetLevelsShort (p : Port) (payload : List Byte) (s : State) : Answer :=
  match payload with
  | bank :: d1 :: d0 :: rest =>
    match bankRole? bank, shortPairs s.access.pages[p] rest with
    | some role, some (x :: l) =>
      s.writeBank p role fun bank =>
        (x :: l).map fun x => .channel bank x.1 x.2 (some (be16 d1 d0)) none
    | _, _ => refuse s .format
  | _ => refuse s .format

/-- SET_WINDOW(bank, window, fields) (R18). -/
def takeSetWindow (p : Port) (payload : List Byte) (s : State) : Answer :=
  match payload with
  | bank :: w :: m1 :: m0 :: rest =>
    let mask := be16 m1 m0
    match splitGroups mask FieldGroup.all rest with
    | none => refuse s .format
    | some groups =>
      let fields := both
        (both (both (orFormat (bankRole? bank)) (needFormat (decide (1 ≤ mask ∧ mask < 512))))
          (everyOk (groups.map fun g => fieldValue g.1 g.2)))
        (index 32 w.toNat)
      withFields s fields fun (((role, _), values), w) =>
        s.writeBank p role fun bank => values.map fun v => .window bank w v
  | _ => refuse s .format

/-- SET_FILL(bank, R, G, B), which names no item and has no guard (R19). -/
def takeSetFill (payload : List Byte) (s : State) : Answer :=
  match payload with
  | [bank, r, g, b] =>
    withFields s (orFormat (bankRole? bank)) fun role =>
      if s.presetBusy role then refuse s .busy
      else okay { s with scene := s.scene.modBank (s.scene.resolve role) fun x =>
        { x with fill := ⟨r.toNat, g.toNat, b.toNat⟩ } }
  | _ => refuse s .format

/-- SET_MASTER(group, value) (R58). -/
def takeSetMaster (p : Port) (payload : List Byte) (s : State) : Answer :=
  match payload with
  | [g, v1, v0] =>
    withFields s (index 16 g.toNat) fun g => s.writeItems p [.master g (clampNat 0 256 (be16 v1 v0))]
  | _ => refuse s .format

/-- TAKE(set); a request that carries no set names set 0 (R25). -/
def takeTake (payload : List Byte) (s : State) : Answer :=
  match payload with
  | [] => ⟨(s.scene.trans.take 0).1, [], s.takeSet 0⟩
  | [n] => withFields s (index 4 n.toNat) fun n => ⟨(s.scene.trans.take n).1, [], s.takeSet n⟩
  | _ => refuse s .format

/-- COPY (R30). -/
def takeCopy (payload : List Byte) (s : State) : Answer :=
  match payload with
  | [] => if s.scene.inFlight then refuse s .busy else okay s.copyBanks
  | _ => refuse s .format

end Sys2Proof.Machine
end

