-- ==== Sys2Proof/Machine/Takeover.lean ====
section
/-! DEFINITION. Takeover Unit (spec/07_takeover_and_safety.md): acceptance and grant of takeover GOs, the override
table, releases, the safety level, EMERGENCY_INPUT_CHANGE, and the requests RELEASE_LEVEL and SET_SAFETY. -/

namespace Sys2Proof.Machine

/-- A takeover level, 5-7. -/
def isTakeover (level : Nat) : Bool := decide (5 ≤ level ∧ level ≤ 7)

/-! ### HALT (R110), shared by releases -/

/-- A stack halted where it stands: IDLE at its position, or END, with its counts, arm, loop context, chained GO and
pending GO cleared (R110). -/
def StackRec.halt (r : StackRec) : StackRec :=
  { r with
    state := if r.position.isSome then .idle else .ended
    loop := none
    chainedGo := false
    pendingGo := false }

/-! ### Acceptance (R116) -/

/-- A GO accepted: WAITING with remaining 0, pending GO cleared. -/
def StackRec.accept (r : StackRec) : StackRec := { r with state := .waiting 0, pendingGo := false }

/-- A GO on a takeover stack decided against the show mask as it stands: the table of R116. The table decides also where
the pending GO is already set: a stack on top, or one with no entry and a level above the mask, is accepted and its
pending GO cleared, and only the two rows that set the flag answer PENDING again (DEDUCED, log entry 40). -/
def State.takeoverGo (s : State) (k : StackNo) : ReplyCode × State :=
  let r := s.cue.recs[k]
  if s.takeover.onTop k then (.ok, s.modStack k StackRec.accept)
  else if s.takeover.holds k then (.pending, s.modStack k fun r => { r with pendingGo := true })
  else
    match r.state with
    | .waiting _ => (.ok, s)
    | _ =>
      if s.takeover.mask < r.level then (.ok, s.modStack k StackRec.accept)
      else (.pending, s.modStack k fun r => { r with pendingGo := true })

/-! ### Suspension and the grant of a MARK (R96, R117, R118) -/

/-- Stack `k` is suspended at a MARK that arrives in this takeover state (R96). -/
def TakeoverUnit.suspends (t : TakeoverUnit) (k : StackNo) (level : Nat) : Bool :=
  decide (level < t.mask) || (isTakeover level && decide (level = t.mask) && !t.onTop k)

/-- Stack `k` is presented to the Takeover Unit at this MARK: an accepted GO that holds no entry (R97, R117). -/
def State.presented (s : State) (k : StackNo) : Bool :=
  let r := s.cue.recs[k]
  isTakeover r.level && !s.takeover.holds k && !s.takeover.suspends k r.level &&
    match r.state with
    | .waiting _ => true
    | _ => false

/-- Stack `k` is a candidate through an eligible pending GO (R117). -/
def State.eligible (s : State) (k : StackNo) : Bool :=
  let r := s.cue.recs[k]
  isTakeover r.level && r.pendingGo && (decide (s.takeover.mask < r.level) || s.takeover.onTop k)

/-- The candidate that a MARK grants: of highest level, and of lowest number among equals (R117). -/
def State.grantee (s : State) : Option StackNo :=
  (List.finRange 8).foldl (fun best k =>
    if s.presented k || s.eligible k then
      match best with
      | some j => if (s.cue.recs[j]).level < (s.cue.recs[k]).level then some k else best
      | none => some k
    else best) none

/-- A granted stack: pending GO cleared and WAITING with remaining 0; a stack at END stays there (R94, R118; DEDUCED,
log entry 26). -/
def StackRec.grant (r : StackRec) : StackRec :=
  { r with pendingGo := false, state := if r.position.isSome then .waiting 0 else .ended }

/-- A presented stack that loses the grant: IDLE at its position with its pending GO set (R118). -/
def StackRec.lose (r : StackRec) : StackRec := { r with pendingGo := true, state := .idle }

/-- The state with the preemption stack replaced. -/
def State.setEntries (s : State) (l : List PreEntry) : State := { s with takeover := { s.takeover with stack := l } }

/-- TAKEOVER_CHANGE with the mask that stands after the change (R134). -/
def State.raiseTakeover (s : State) (cause : TakeoverCause) (holder : Option (Nat × StackNo)) : State :=
  s.raiseRouted (.takeoverChange cause holder s.takeover.mask s.ref.counter)

/-- The grant of a MARK (R118). -/
def State.grant (s : State) : State :=
  match s.grantee with
  | none => s
  | some k =>
    let level := (s.cue.recs[k]).level
    let recs := tab fun j =>
      if j = k then (s.cue.recs[j]).grant
      else if s.presented j then (s.cue.recs[j]).lose
      else s.cue.recs[j]
    let s1 := { s with cue := { s.cue with recs := recs } }
    if s.takeover.onTop k then s1.raiseTakeover .accepted (some (level, k))
    else (s1.setEntries (s.takeover.stack ++ [.level level k])).raiseTakeover .pushed (some (level, k))

/-! ### The override table (R120 to R122) -/

/-- An entry written to the table: one of its key and level is replaced in place, and a new one is added. -/
def writeOverride (table : List Override) (e : Override) : List Override :=
  if table.any fun x => x.level == e.level && decide (x.item.key = e.item.key) then
    table.map fun x => if x.level == e.level && decide (x.item.key = e.item.key) then e else x
  else table ++ [e]

/-- How many of the entries are new keys: the room that an action needs (R121). -/
def newKeys (table : List Override) (es : List Override) : Nat :=
  (es.filter fun e => !table.any fun x => x.level == e.level && decide (x.item.key = e.item.key)).length

/-- The free entries of the override table (R120). -/
def TakeoverUnit.freeEntries (t : TakeoverUnit) : Nat := 256 - t.overrides.length

/-! ### Releases (R126) -/

/-- The entry of level `l` held by a stack. -/
def PreEntry.isLevel (l : Nat) : PreEntry → Bool
  | .level m _ => m == l
  | .safety => false

/-- The release of level `l`, which stack `k` holds, with a release fade (R126). -/
def State.release (s : State) (l : Nat) (k : StackNo) (fade : Nat) : State :=
  let s1 := { s with
    takeover := { s.takeover with
      stack := s.takeover.stack.filter fun e => !e.isLevel l
      overrides := s.takeover.overrides.filter fun e => e.level != l }
    level := { s.level with releaseFade := fade } }
  (s1.modStack k StackRec.halt).raiseTakeover .released (some (l, k))

/-- RELEASE_LEVEL(L, release fade) (R125); its DENIED check is the Access Unit's. -/
def takeReleaseLevel (payload : List Byte) (s : State) : Answer :=
  match payload with
  | [l, f1, f0] =>
    if !isTakeover l.toNat then refuse s .range
    else match s.takeover.holder l.toNat with
      | none => refuse s .notFound
      | some k => okay (s.release l.toNat k (be16 f1 f0))
  | _ => refuse s .format

/-! ### Safety (R128 to R130) -/

/-- SAFETY_CHANGE, as safety now stands. -/
def State.raiseSafety (s : State) : State :=
  s.raiseRouted (.safetyChange s.takeover.inForce s.takeover.emergency s.takeover.latch s.ref.counter)

/-- The emergency input and the latch take new values, and safety comes into force or ends when the outcome changes
(R128). -/
def State.setSafety (s : State) (emergency latch : Bool) : State :=
  let s1 := { s with takeover := { s.takeover with emergency := emergency, latch := latch } }
  match s.takeover.inForce, s1.takeover.inForce with
  | false, true => (s1.setEntries (s.takeover.stack ++ [.safety])).raiseSafety
  | true, false => (s1.setEntries (s.takeover.stack.filter fun e => decide (e ≠ .safety))).raiseSafety
  | _, _ => s1

/-- EMERGENCY_INPUT_CHANGE (R128). -/
def execEmergencyInputChange (asserted : Bool) (s : State) : Host.Outcome State Fault Refusal :=
  (s.setSafety asserted s.takeover.latch).done

/-- SET_SAFETY(latch) (R129). -/
def takeSetSafety (payload : List Byte) (s : State) : Answer :=
  match payload with
  | [l] => withFields s (orFormat (flag? l)) fun latch => okay (s.setSafety s.takeover.emergency latch)
  | _ => refuse s .format

/-! ### SHOW_RESET (R132) -/

/-- SHOW_RESET on the Takeover Unit and on the last release fade: the SAFETY entry is kept, all else goes, and
TAKEOVER_CHANGE is raised once when an entry of levels 5-7 was removed. -/
def State.resetTakeover (s : State) : State :=
  let s1 := { s with
    takeover := { s.takeover with
      stack := s.takeover.stack.filter fun e => decide (e = .safety)
      overrides := [] }
    level := { s.level with releaseFade := 0 } }
  if s.takeover.stack.any fun e => decide (e ≠ .safety) then s1.raiseTakeover .reset none else s1

end Sys2Proof.Machine
end

