-- ==== Sys2Proof/Machine/CueStacks.lean ====
section
/-! DEFINITION. Cue Unit (spec/06_cue_stacks.md): the cue store, firing, the step of the stacks at a MARK, and the
requests STORE_CUE, DELETE_CUE, SET_STACK, GO, ARM, HALT and RESET_STACK. -/

namespace Sys2Proof.Machine

/-! ### The cue store (R88 to R95) -/

/-- The cue record of a number in a stack's list. -/
def CueUnit.find (c : CueUnit) (k : StackNo) (n : Nat) : Option Cue :=
  c.store.find? fun q => decide (q.stack = k ∧ q.number = n)

/-- The numbers of a stack's list, in ascending order. -/
def CueUnit.numbers (c : CueUnit) (k : StackNo) : List Nat :=
  (c.store.filter fun q => decide (q.stack = k)).map Cue.number

/-- The next cue after `n` in a stack's list (R95). -/
def CueUnit.next (c : CueUnit) (k : StackNo) (n : Nat) : Option Nat := (c.numbers k).find? fun m => decide (n < m)

/-- The first cue of a stack's list. -/
def CueUnit.first (c : CueUnit) (k : StackNo) : Option Nat := (c.numbers k).head?

/-- Cue `a` stands before cue `c` in the store: ascending stack, and then ascending number. -/
def Cue.before (a c : Cue) : Bool :=
  decide (a.stack < c.stack) || decide (a.stack = c.stack ∧ a.number < c.number)

/-- A cue stored at its place, replacing one of its stack and number (R91). -/
def insertCue (q : Cue) : List Cue → List Cue
  | [] => [q]
  | x :: l =>
    if q.before x then q :: x :: l
    else if q.stack = x.stack ∧ q.number = x.number then q :: l
    else x :: insertCue q l

/-- A stack record moved to a position without an arrival: halted at it (R95, R110). -/
def StackRec.haltAt (r : StackRec) (pos : Option Nat) : StackRec := ({ r with position := pos }).halt

/-- A stack record arriving at a cue: WAITING with its wait for an AUTO cue, IDLE for a GO cue, END without one (R95).
-/
def StackRec.arrive (r : StackRec) (q : Option Cue) : StackRec :=
  match q with
  | some q => { r with
      position := some q.number
      state := match q.body.trigger with
        | .auto => .waiting q.body.wait
        | .go => .idle }
  | none => { r with position := none, state := .ended }

/-! ### GO (R99, R100) -/

/-- A GO that has passed the Access Unit, decided by the stack's state: the table of R99. -/
def State.goEffect (s : State) (k : StackNo) : ReplyCode × State :=
  let r := s.cue.recs[k]
  match r.state with
  | .ended => (.atEnd, s)
  | .repeating _ _ => (.busy, s)
  | _ =>
    if r.level < 5 then
      if 5 ≤ s.takeover.mask then (.suspended, s)
      else (.ok, s.modStack k fun r => { r with state := .waiting 0 })
    else s.takeoverGo k

/-! ### Actions (R103 to R105) -/

/-- The items of an action that claims are checked on (R142, R145). -/
def Action.items : Action → List Item
  | .level _ first last _ _ => (channelRange first last).map .channel
  | .window _ w _ => [.window w]
  | .master g _ => [.group g]
  | .goStack k => [.stack k]
  | .take _ => []
  | .copy => []

/-- An action skipped: the stack's count rises and ACTION_SKIPPED goes to its owner or the routing set (R105). -/
def State.skipAction (s : State) (k : StackNo) (cue place : Nat) (reason : SkipReason) : State :=
  (s.modStack k fun r => { r with skipped := satSucc 65535 r.skipped }).raiseStack k
    (.actionSkipped k cue place reason s.ref.counter)

/-- A write of an action to a bank or a master, past the claim check: the guard, and BANK_BUSY before a preset write
(R103, steps 2 and 3). -/
def State.actionWrite (s : State) (k : StackNo) (cue place : Nat) (busy : Bool) (ws : List ItemWrite) : State :=
  if busy then s.skipAction k cue place .bankBusy
  else match s.guardWrite (.stack k) ws with
    | .guarded => s.skipAction k cue place .guarded
    | .queueFull => s.skipAction k cue place .queueFull
    | .passed s' _ => s'

/-- The item of an override entry, as a guard sees it. -/
def OverrideItem.guardItem : OverrideItem → GuardedItem
  | .channel n _ _ => .channel n
  | .window w _ => .window w

/-- A write of an action to the override table: the guard, in which DEFER is treated as ALERT, and the room (R104, R121,
R122). -/
def State.overrideWrite (s : State) (k : StackNo) (cue place : Nat) (es : List Override) : State :=
  let items := es.map fun e => e.item.guardItem
  if items.any fun i => decide (s.shotGuard i = some .refuse) then s.skipAction k cue place .guarded
  else
    let needed := newKeys s.takeover.overrides es
    let free := s.takeover.freeEntries
    if free < needed then
      (s.skipAction k cue place .overrideFull).raiseRouted (.overrideFull k cue needed free s.ref.counter)
    else
      let s1 := { s with takeover := { s.takeover with overrides := es.foldl writeOverride s.takeover.overrides } }
      s1.raiseGuardAlert
        (items.filter fun i => decide (s.shotGuard i = some .alert ∨ s.shotGuard i = some .defer)) (.stack k) .override

/-- An action past its claim check. -/
def State.actEffect (s : State) (k : StackNo) (cue place : Nat) (a : Action) : State :=
  let level := (s.cue.recs[k]).level
  match a with
  | .level role first last v d =>
    if isTakeover level then
      s.overrideWrite k cue place ((channelRange first last).map fun n => ⟨level, .channel n v d, k⟩)
    else
      s.actionWrite k cue place (s.presetBusy role)
        ((channelRange first last).map fun n => .channel (s.scene.resolve role) n v (some d) none)
  | .window role w v =>
    if isTakeover level then s.overrideWrite k cue place [⟨level, .window w v, k⟩]
    else s.actionWrite k cue place (s.presetBusy role) [.window (s.scene.resolve role) w v]
  | .master g v => s.actionWrite k cue place false [.master g v]
  | .take n => s.takeSet n
  | .copy => if s.scene.inFlight then s.skipAction k cue place .bankBusy else s.copyBanks
  | .goStack j => s.modStack j fun r => { r with chainedGo := true }

/-- One action of a firing of stack `k`: claims are checked on behalf of the stack's owner, unless the stack is a
takeover's (R103, R104). -/
def State.act (s : State) (k : StackNo) (cue place : Nat) (a : Action) : State :=
  if !isTakeover (s.cue.recs[k]).level && a.items.any (s.access.denied (s.access.stackOwner k)) then
    s.skipAction k cue place .denied
  else s.actEffect k cue place a

/-- The actions of a list in order, the first at the given place. -/
def State.actAll (s : State) (k : StackNo) (cue : Nat) : Nat → List Action → State
  | _, [] => s
  | place, a :: l => (s.act k cue place a).actAll k cue (place + 1) l

/-! ### Firing (R102, R106 to R109) -/

/-- What the loop marker of a last firing does: the loop context after it, the start cue when it is the next position,
and the start cue of another active loop when NESTED_LOOP is raised (R107). -/
def loopStep (q : Cue) (loop : Option LoopContext) : Option LoopContext × Option Nat × Option Nat :=
  match q.body.marker, loop with
  | .none, l => (l, none, none)
  | .loopStart, none => (some ⟨q.number, q.body.loopCount⟩, none, none)
  | .loopStart, some c => (some c, none, if c.startCue = q.number then none else some c.startCue)
  | .loopEnd, none => (none, none, none)
  | .loopEnd, some c =>
    if c.remaining = 0 then (none, none, none) else (some { c with remaining := c.remaining - 1 }, some c.startCue, none)

/-- The last firing of cue `q`, after its actions: loop marker, advance and release (R102, steps 3 to 5). -/
def State.lastFiring (s : State) (k : StackNo) (q : Cue) : State :=
  let m := loopStep q (s.cue.recs[k]).loop
  let s1 := match m.2.2 with
    | some start => s.raiseStack k (.nestedLoop k q.number start s.ref.counter)
    | none => s
  let target := match m.2.1 with
    | some start => some start
    | none => s.cue.next k q.number
  let s2 := s1.modStack k fun r =>
    ({ r with loop := m.1 }).arrive (target.bind fun n => s.cue.find k n)
  let level := (s.cue.recs[k]).level
  if isTakeover level && q.body.release then
    match s2.takeover.holder level with
    | some j => s2.release level j q.body.releaseFade
    | none => s2
  else s2

/-- The cue at the position fires (R102): for the first time, or as a repeat with the given repeats remaining before
it (R106). A firing is a repeat exactly where the stack is REPEATING. After a HALT has dropped the repeats that remain, a
GO or an ARM at the same position therefore fires the cue for the first time again, with all its repeats, though the
stack has not arrived at it anew (DEDUCED, log entry 39). -/
def State.fire (s : State) (k : StackNo) (again : Option Nat) : State :=
  match (s.cue.recs[k]).position.bind fun n => s.cue.find k n with
  | none => s
  | some q =>
    let s1 := s.actAll k q.number 1 q.body.actions
    let left := match again with
      | none => q.body.repeats
      | some r => r - 1
    if left = 0 then s1.lastFiring k q
    else s1.modStack k fun r => { r with state := .repeating left q.body.interval }

/-! ### The MARK step (R96 to R98) -/

/-- Part 1: a chained GO recorded before this MARK is taken as a GO and cleared (R97, R100). -/
def State.takeChained (s : State) (k : StackNo) : State :=
  if (s.cue.recs[k]).chainedGo then ((s.modStack k fun r => { r with chainedGo := false }).goEffect k).2 else s

/-- Part 1 of every stack. -/
def State.takeAllChained (s : State) : State := (List.finRange 8).foldl State.takeChained s

/-- How far a target lies behind the frame whose MARK precedes it: (c + 1 - F) mod 2^32 (R98). -/
def lateBy (c target : Frame) : Nat := (c + 1 - target).toNat

/-- An ARMED stack that is not suspended is decided (R98). -/
def State.decideArm (s : State) (k : StackNo) (target : Frame) (grace : Nat) : State :=
  let r := s.cue.recs[k]
  let d := lateBy s.ref.counter target
  let cue := r.position.getD 0
  if d = 0 then s.fire k none
  else if d ≤ grace then
    (s.raiseStack k (.cueLate k cue target (BitVec.ofNat 32 d) s.ref.counter)).fire k none
  else if d < 2 ^ 31 then
    (s.modStack k fun r => { r with state := .idle }).raiseStack k
      (.cueExpired k cue target (BitVec.ofNat 32 d) s.ref.counter)
  else s

/-- Part 3: the state of a stack acts (R97). -/
def State.stackActs (s : State) (k : StackNo) : State :=
  match (s.cue.recs[k]).state with
  | .idle => s
  | .ended => s
  | .waiting 0 => s.fire k none
  | .waiting (n + 1) => s.modStack k fun r => { r with state := .waiting n }
  | .repeating r 0 => s.fire k (some r)
  | .repeating r (i + 1) => s.modStack k fun x => { x with state := .repeating r i }
  | .armed f g => s.decideArm k f g

/-- What a MARK has left to do after its grant: the stacks whose part 3 is due, and the Tally Unit's application step.
The manual gives these no order (R97; DESIGN CHOICE, log entry 7). -/
inductive MarkTask where
  | stack (k : StackNo)
  | apply
  deriving DecidableEq, Repr

/-- One task of a MARK. -/
def State.markTask (s : State) : MarkTask → State
  | .stack k => s.stackActs k
  | .apply => s.applyDeferred

/-- A MARK up to its grant: the state after part 1 of every stack and after the grant, and the stacks that were not
suspended at it (R96, R97, R117). -/
structure MarkStart where
  granted : State
  free : StackNo → Bool

/-- Parts 1 and 2 of every stack and the grant. -/
def State.markStart (s : State) : MarkStart :=
  let s1 := s.takeAllChained
  ⟨s1.grant, fun k => !s1.takeover.suspends k (s1.cue.recs[k]).level⟩

/-- The tasks of a MARK whose suspension test left these stacks free. -/
def markTasks (free : StackNo → Bool) : List MarkTask :=
  ((List.finRange 8).filter free).map .stack ++ [.apply]

/-- MARK: parts 1 and 2, the grant, and then part 3 and the application step in the given order (R97). -/
def State.markSteps (s : State) (order : List Nat) : State :=
  let m := s.markStart
  (arrange order (markTasks m.free)).foldl State.markTask m.granted

/-! ### Requests taken -/

/-- A stack number as an index, or RANGE. -/
def stackNo (b : Byte) : Except ReplyCode StackNo := index 8 b.toNat

/-- GO(stack) (R99). -/
def takeGo (payload : List Byte) (s : State) : Answer :=
  match payload with
  | [k] => withFields s (stackNo k) fun k => ⟨(s.goEffect k).1, [], (s.goEffect k).2⟩
  | _ => refuse s .format

/-- The fields of an ARM: stack, target, and grace or the late grace default (R101). -/
def armFields (payload : List Byte) (graceDefault : Nat) : Option (Byte × Frame × Nat) :=
  match payload with
  | [k, f3, f2, f1, f0] => some (k, be32 f3 f2 f1 f0, graceDefault)
  | [k, f3, f2, f1, f0, g1, g0] => some (k, be32 f3 f2 f1 f0, be16 g1 g0)
  | _ => none

/-- ARM(stack, F, G) (R101). -/
def takeArm (payload : List Byte) (s : State) : Answer :=
  match armFields payload s.cue.lateGrace with
  | none => refuse s .format
  | some (k, f, g) =>
    withFields s (stackNo k) fun k =>
      let r := s.cue.recs[k]
      if 5 ≤ r.level then refuse s .format
      else
        let armed := s.modStack k fun r => { r with state := .armed f g }
        let code := if f.isPast s.ref.counter then ReplyCode.late else .ok
        match r.state with
        | .ended => refuse s .atEnd
        | .waiting _ => refuse s .busy
        | .repeating _ _ => refuse s .busy
        | .idle => ⟨code, [], armed⟩
        | .armed _ _ => ⟨code, [], armed⟩

/-- HALT(stack) (R110). -/
def takeHalt (payload : List Byte) (s : State) : Answer :=
  match payload with
  | [k] => withFields s (stackNo k) fun k => okay (s.modStack k StackRec.halt)
  | _ => refuse s .format

/-- RESET_STACK(stack) (R111). -/
def takeResetStack (payload : List Byte) (s : State) : Answer :=
  match payload with
  | [k] => withFields s (stackNo k) fun k => okay (s.modStack k fun r => r.haltAt (s.cue.first k))
  | _ => refuse s .format

/-- A stack whose level may be set: IDLE or END, no pending or chained GO, no entry on the preemption stack (R92). -/
def State.levelFree (s : State) (k : StackNo) : Bool :=
  let r := s.cue.recs[k]
  decide (r.state = .idle ∨ r.state = .ended) && !r.pendingGo && !r.chainedGo && !s.takeover.holds k

/-- A stack's level set by SET_STACK or by the header form of STORE_CUE (R92). -/
def State.setLevelOf (s : State) (k l : Byte) : Answer :=
  withFields s (both (stackNo k) (needRange (decide (1 ≤ l.toNat ∧ l.toNat ≤ 7)))) fun (k, _) =>
    if s.levelFree k then okay (s.modStack k fun r => { r with level := l.toNat }) else refuse s .busy

/-- SET_STACK(stack, level) (R92). -/
def takeSetStack (payload : List Byte) (s : State) : Answer :=
  match payload with
  | [k, l] => s.setLevelOf k l
  | _ => refuse s .format

/-- The header form of STORE_CUE: stack, cue number 0, level (R92). -/
def takeStoreHeader (payload : List Byte) (s : State) : Answer :=
  match payload with
  | [k, _, _, l] => s.setLevelOf k l
  | _ => refuse s .format

/-- A record stored in a stack's list, when the pools have room for it (R91). -/
def State.storeCue (s : State) (q : Cue) : Answer :=
  let fits := match s.cue.find q.stack q.number with
    | some old => decide (q.body.actions.length ≤ s.cue.freeSlots + old.body.actions.length)
    | none => decide (1 ≤ s.cue.freeRecords ∧ q.body.actions.length ≤ s.cue.freeSlots)
  if fits then okay { s with cue := { s.cue with store := insertCue q s.cue.store } } else refuse s .noSpace

/-- STORE_CUE(stack, cue number, record), and its header form (R91, R92). -/
def takeStoreCue (payload : List Byte) (s : State) : Answer :=
  match payload with
  | k :: n1 :: n0 :: rest =>
    if be16 n1 n0 = 0 then takeStoreHeader payload s
    else
      withFields s (both (cueBody rest) (both (stackNo k) (needRange (decide (be16 n1 n0 ≤ 9999)))))
        fun (body, (k, _)) => s.storeCue ⟨k, be16 n1 n0, body⟩
  | _ => refuse s .format

/-- What the deletion of cue `n` does to its stack (R93). -/
def State.afterDelete (s : State) (k : StackNo) (n : Nat) : State :=
  let r := s.cue.recs[k]
  if r.position = some n then s.modStack k fun r => r.haltAt (s.cue.next k n)
  else if (r.loop.map LoopContext.startCue) = some n then s.modStack k fun r => { r with loop := none }
  else s

/-- DELETE_CUE(stack, cue number) (R93). -/
def takeDeleteCue (payload : List Byte) (s : State) : Answer :=
  match payload with
  | [k, n1, n0] =>
    let n := be16 n1 n0
    withFields s (both (stackNo k) (needRange (decide (1 ≤ n ∧ n ≤ 9999)))) fun (k, _) =>
      match s.cue.find k n with
      | none => refuse s .notFound
      | some _ =>
        let store := s.cue.store.filter fun q => !decide (q.stack = k ∧ q.number = n)
        okay ({ s with cue := { s.cue with store := store } }.afterDelete k n)
  | _ => refuse s .format

/-! ### SHOW_RESET (R94) -/

/-- A stack at its reset values: at the first cue of its list and IDLE, or at END when the list is empty; the level
stays. -/
def StackRec.restart (r : StackRec) (first : Option Nat) : StackRec :=
  { (r.haltAt first) with skipped := 0 }

/-- Every stack at its reset values (R94). -/
def CueUnit.restart (c : CueUnit) : CueUnit := { c with recs := tab fun k => (c.recs[k]).restart (c.first k) }

end Sys2Proof.Machine
end

