-- ==== Sys2Proof/Machine/Reference.lean ====
section
/-! DEFINITION. Reference Unit (spec/01_reference_timing.md): frame events, reference pulses, the absorption window,
MARK, what every block does at a FRAME, the commands that are frame events or MARKs, and the request SET_FRAME. -/

namespace Sys2Proof.Machine

/-- The state with the Reference Unit passed through `f`. -/
def State.modRef (s : State) (f : RefUnit → RefUnit) : State := { s with ref := f s.ref }

/-! ### Lock accounting (R7, R8) -/

/-- The close of the absorption window: to FREE with REF_LOST after three flywheel frames, or back to lead count 0; a
window already closed does nothing. -/
def State.closeWindow (s : State) : State :=
  if s.ref.windowOpen then
    match s.ref.lock, s.ref.origin with
    | .locked, .clock =>
      if 3 ≤ s.ref.flywheel then
        (s.modRef fun r => { r with windowOpen := false, lock := .free, flywheel := 0, lead := 0 }).raiseRouted
          (.refLost s.ref.counter)
      else s.modRef fun r => { r with windowOpen := false }
    | .free, .clock => s.modRef fun r => { r with windowOpen := false, lead := 0 }
    | _, .pulse => s.modRef fun r => { r with windowOpen := false }
  else s

/-- A frame led by a pulse, or backed by the first pulse absorbed in it: the flywheel count goes to 0 in LOCKED, the
lead count rises in FREE, and at 2 the unit is LOCKED with REF_REGAINED. -/
def State.countPulse (s : State) : State :=
  match s.ref.lock with
  | .locked => s.modRef fun r => { r with flywheel := 0 }
  | .free =>
    if 2 ≤ s.ref.lead + 1 then
      (s.modRef fun r => { r with lock := .locked, flywheel := 0, lead := 0 }).raiseRouted (.refRegained s.ref.counter)
    else s.modRef fun r => { r with lead := r.lead + 1 }

/-- A frame issued by the local clock: a flywheel frame in LOCKED; no change for now in FREE. -/
def State.countClock (s : State) : State :=
  match s.ref.lock with
  | .locked => s.modRef fun r => { r with flywheel := r.flywheel + 1 }
  | .free => s

/-! ### MARK (R6) -/

/-- MARK issued for the current frame: the steps of the Cue, Takeover and Tally Units, and the MARK is ISSUED. -/
def State.issueMark (s : State) (order : List Nat) : State :=
  (s.markSteps order).modRef fun r => { r with markDue := none }

/-- MARK when it is owed; a MARK not owed does not come (DESIGN CHOICE, log entry 4). -/
def State.owedMark (s : State) (order : List Nat) : State := if s.ref.markDue.isSome then s.issueMark order else s

/-! ### The frame event (R2 to R5) -/

/-- A frame event's cause produces one: the local clock does, and a pulse does at half a period or later (R3, R4). -/
def State.leads (s : State) : FrameCause → Bool
  | .clock => true
  | .pulse e => decide (s.ref.frameRate.half ≤ e)

/-- The instant of a frame event. -/
def State.eventInstant (s : State) : FrameCause → Nat
  | .clock => s.ref.expiry
  | .pulse e => s.ref.lastEvent + e

/-- The origin that a cause gives its frame. -/
def originOf : FrameCause → Origin
  | .clock => .clock
  | .pulse _ => .pulse

/-- The lock accounting of the new frame, by its origin. -/
def State.countFrame (s : State) : Origin → State
  | .clock => s.countClock
  | .pulse => s.countPulse

/-- The Reference Unit at a frame event, in the order of R5: the owed MARK, the close of the window, the counter, and
the new frame with its window OPEN, its MARK owed and the configured rate (R2). The scan and the computation of the
ending frame have ended by then (R46, R61; DESIGN CHOICE, log entry 6). A MARK issued here is taken whole before the
FRAME that follows: its cue actions and its deferred applications land before that FRAME's step and are read by it,
where R97, R102 and R167 leave it to R23, which lets either order occur (DESIGN CHOICE, log entry 35). -/
def State.openFrame (s : State) (ev : FrameEvent) : State :=
  let now := s.eventInstant ev.cause
  let s1 := (s.finishScan.levelsReady.owedMark ev.inputs.order).closeWindow
  let s2 := s1.modRef fun r =>
    { r with
      counter := r.counter + 1
      origin := originOf ev.cause
      windowOpen := true
      frameRate := r.rate
      markDue := some (now + r.rate.half)
      lastEvent := now
      expiry := now + r.rate.period }
  s2.countFrame (originOf ev.cause)

/-- FRAME at the blocks: the Scene Memory's step, the source ports, the tally sample, the claims, and then the readers,
who start the scan and the computation (R23, R35, R46, R60, R152, R159). -/
def State.frameBlocks (s : State) (tally : BitVec 16) : State :=
  let m := s.scene.frameStep s.wall.sets
  let s1 := { s with scene := m.1 }.stepSources
  let s2 := { s1 with tally := s1.tally.sample tally }.stepClaims m.2
  (s2.startScan m.2).startComputation

/-- A whole frame event. -/
def State.frame (s : State) (ev : FrameEvent) : State := (s.openFrame ev).frameBlocks ev.inputs.tally

/-- A pulse absorbed at `e` after the last frame event (R3), with the accounting of R7 and R8 while the frame's origin
is CLOCK. -/
def State.absorb (s : State) (e : Nat) : State :=
  let at' := s.ref.lastEvent + e
  let s1 := s.modRef fun r =>
    { r with
      expiry := at' + r.frameRate.period
      markDue := r.markDue.map fun _ => at' + r.frameRate.half }
  match s.ref.origin with
  | .clock => (s1.modRef fun r => { r with origin := .pulse }).countPulse
  | .pulse => s1

/-- The frame event, when it is one and the named thing happens at it; no change otherwise (DESIGN CHOICE, log entry
3). -/
def State.frameWhen (s : State) (ev : FrameEvent) (happens : State → Bool) : State :=
  if s.leads ev.cause && happens (s.openFrame ev) then s.frame ev else s

/-- The MARK, when it is owed and the named thing happens at it; no change otherwise (DESIGN CHOICE, log entry 3). -/
def State.markWhen (s : State) (order : List Nat) (happens : Bool) : State :=
  if s.ref.markDue.isSome && happens then s.issueMark order else s

/-! ### What may happen at a FRAME or a MARK -/

/-- The FRAME swaps the banks (R26). -/
def State.swaps (s : State) : Bool :=
  match s.scene.trans with
  | .pending _ => true
  | _ => false

/-- The FRAME ends a transition: a cut, a last frame or a hurry (R26, R27). -/
def State.endsTransition (s : State) : Bool :=
  match s.scene.trans with
  | .idle => false
  | .pending n => decide ((s.wall.sets[n]).duration ≤ 1)
  | .running r => r.hurry || decide (r.frames ≤ r.k + 1)

/-- The view of the transition that the readers of this FRAME will have. -/
def State.nextView (s : State) : FrameView := (s.scene.frameStep s.wall.sets).2

/-- The state of stack `k` acts at part 3 of this MARK: what its state is after the grant, while it is not suspended. -/
def State.actingState (s : State) (k : StackNo) : Option StackState :=
  let m := s.markStart
  if m.free k then some (m.granted.cue.recs[k]).state else none

/-- Stack `k` fires at this MARK at the end of its wait (R97). -/
def State.waitEnds (s : State) (k : StackNo) : Bool :=
  match s.actingState k with
  | some (.waiting 0) => true
  | _ => false

/-- Stack `k` fires again at this MARK (R106). -/
def State.repeatEnds (s : State) (k : StackNo) : Bool :=
  match s.actingState k with
  | some (.repeating _ 0) => true
  | _ => false

/-- The arm of stack `k` is decided at this MARK, its target no longer in the future (R98). -/
def State.armEnds (s : State) (k : StackNo) : Bool :=
  match s.actingState k with
  | some (.armed f _) => decide (lateBy s.ref.counter f < 2 ^ 31)
  | _ => false

/-- An entry of the deferred queue is releasable once this MARK's grant is made (R167). -/
def State.queueReady (s : State) : Bool :=
  s.markStart.granted.tally.queue.any fun d => (s.markStart.granted.releasable d).isSome

/-! ### Commands -/

/-- REFERENCE_PULSE (R3): it leads a frame, or is absorbed. -/
def execReferencePulse (elapsed : Nat) (inputs : FrameIn) (s : State) : Host.Outcome State Fault Refusal :=
  if s.leads (.pulse elapsed) then (s.frame ⟨.pulse elapsed, inputs⟩).done else (s.absorb elapsed).done

/-- LOCAL_CLOCK_EXPIRY (R4). -/
def execLocalClockExpiry (inputs : FrameIn) (s : State) : Host.Outcome State Fault Refusal :=
  (s.frame ⟨.clock, inputs⟩).done

/-- ABSORPTION_WINDOW_CLOSE (R7). -/
def execAbsorptionWindowClose (s : State) : Host.Outcome State Fault Refusal := s.closeWindow.done

/-- MARK (R6). -/
def execMark (order : List Nat) (s : State) : Host.Outcome State Fault Refusal := (s.owedMark order).done

/-- TAKE_SWAP (R26): the frame event at which a pending take swaps. -/
def execTakeSwap (ev : FrameEvent) (s : State) : Host.Outcome State Fault Refusal :=
  (s.frameWhen ev State.swaps).done

/-- TRANSITION_END (R27): the frame event at which a transition ends. -/
def execTransitionEnd (ev : FrameEvent) (s : State) : Host.Outcome State Fault Refusal :=
  (s.frameWhen ev State.endsTransition).done

/-- SOURCE_HOLD_EXPIRY (R35): the frame event at which a source port becomes LOST. -/
def execSourceHoldExpiry (ev : FrameEvent) (p : SourceNo) (s : State) : Host.Outcome State Fault Refusal :=
  (s.frameWhen ev fun t => decide ((t.wall.sources[p]).step.2 = some .lost)).done

/-- AUTO_YIELD (R151): the frame event at which a claim moves by itself. -/
def execAutoYield (ev : FrameEvent) (id : ClaimId) (s : State) : Host.Outcome State Fault Refusal :=
  (s.frameWhen ev fun t => match t.entryStep t.nextView id with
    | .moves _ => true
    | _ => false).done

/-- HANDOVER_EXPIRY (R152): the frame event at which a handover expires. -/
def execHandoverExpiry (ev : FrameEvent) (id : ClaimId) (s : State) : Host.Outcome State Fault Refusal :=
  (s.frameWhen ev fun t => match t.entryStep t.nextView id with
    | .expires _ => true
    | _ => false).done

/-- CHAINED_GO (R100): the MARK at which a stack takes a chained GO. -/
def execChainedGo (order : List Nat) (k : StackNo) (s : State) : Host.Outcome State Fault Refusal :=
  (s.markWhen order (s.cue.recs[k]).chainedGo).done

/-- WAIT_EXPIRY (R97): the MARK at which a WAITING stack fires. -/
def execWaitExpiry (order : List Nat) (k : StackNo) (s : State) : Host.Outcome State Fault Refusal :=
  (s.markWhen order (s.waitEnds k)).done

/-- REPEAT_INTERVAL_EXPIRY (R106): the MARK at which a REPEATING stack fires again. -/
def execRepeatIntervalExpiry (order : List Nat) (k : StackNo) (s : State) : Host.Outcome State Fault Refusal :=
  (s.markWhen order (s.repeatEnds k)).done

/-- ARM_TARGET (R98): the MARK at which an arm is decided. -/
def execArmTarget (order : List Nat) (k : StackNo) (s : State) : Host.Outcome State Fault Refusal :=
  (s.markWhen order (s.armEnds k)).done

/-- TAKEOVER_GRANT (R117): the MARK at which the preemption stack is granted. -/
def execTakeoverGrant (order : List Nat) (s : State) : Host.Outcome State Fault Refusal :=
  (s.markWhen order s.takeAllChained.grantee.isSome).done

/-- DEFER_APPLY (R167): the MARK at which the deferred queue has a releasable entry. -/
def execDeferApply (order : List Nat) (s : State) : Host.Outcome State Fault Refusal :=
  (s.markWhen order s.queueReady).done

/-! ### Requests taken -/

/-- SET_FRAME(value) (R10). -/
def takeSetFrame (payload : List Byte) (s : State) : Answer :=
  match payload with
  | [b3, b2, b1, b0] => okay (s.modRef fun r => { r with counter := be32 b3 b2 b1 b0 })
  | _ => refuse s .format

end Sys2Proof.Machine
end

