-- ==== Sys2Proof/Machine/Image.lean ====
section
/-! DEFINITION. Image Store (spec/11_start_up_image.md, spec/12_formats.md 12.9): the image's body and header as bytes,
the checks that make an image good, HARD_RESET with its load, SAVE_IMAGE and how a save ends. -/

namespace Sys2Proof.Machine

/-! ### The body as bytes (R185; DEDUCED, log entry 18) -/

/-- The line record's configuration in the image. -/
def lineBytes (l : Bool × Nat × Nat) : List Byte := flagByte l.1 ++ u16 l.2.1 ++ u16 l.2.2

/-- A wall link record: origin, size, brightness, enabled. -/
def WallLink.bytes (k : WallLink) : List Byte :=
  u16 k.x ++ u16 k.y ++ u16 k.width ++ u16 k.height ++ u16 k.brightness ++ flagByte k.enabled

/-- A transition set: duration and curve, at the widths of SET_TRANSITION (12.4). -/
def TransitionSet.bytes (t : TransitionSet) : List Byte := u16 t.duration ++ u8 t.curve.code

def ShotEntry.bytes (e : ShotEntry) : List Byte := u32 e.windows.toNat ++ u16 e.groups.toNat

def TimingValues.bytes (t : TimingValues) : List Byte :=
  u8 t.rate.code ++ u16 t.lateGrace ++ u16 t.timeout ++ u16 t.safetyFade ++ u16 t.safetyWall

/-- The role and the line rate of each port. -/
def portBytes (roles : Vector PortRole 4) (rates : Vector LineRate 4) : List Byte :=
  (List.finRange 4).flatMap fun p => u8 (roles[p]).code ++ u8 (rates[p]).code

/-- The body of the image: the items of R185 in its order. -/
def ImageBody.bytes (b : ImageBody) : List Byte :=
  b.patch.toList.flatMap PatchRec.bytes
  ++ b.shotMap.toList.flatMap ShotEntry.bytes
  ++ b.windowGuards.toList.flatMap (fun g => u8 g.code) ++ b.groupGuards.toList.flatMap (fun g => u8 g.code)
  ++ b.routing.toList.flatMap (fun r => u8 r.toNat)
  ++ b.lines.toList.flatMap lineBytes ++ b.links.toList.flatMap WallLink.bytes
  ++ b.holdLimits.toList.flatMap u16 ++ b.sets.toList.flatMap TransitionSet.bytes
  ++ b.timing.bytes
  ++ portBytes b.roles b.rates
  ++ b.bankA.bytes ++ b.bankB.bytes ++ u8 b.program.code
  ++ u16 b.store.length ++ b.store.flatMap Cue.bytes ++ b.levels.toList.flatMap u8

/-- The image as stored: the header of 16 bytes and the body (12.9). -/
def ImageBody.image (b : ImageBody) : List Byte :=
  u32 0x4E563431 ++ [1, 0, 0, 0] ++ u32 b.bytes.length ++ u32 (crc32 b.bytes).toNat ++ b.bytes

/-! ### Reading it back -/

/-- A reader of one item off the front of the bytes. -/
abbrev Reader (α : Type) := List Byte → Option (α × List Byte)

/-- An item of a fixed width. -/
def chunk {α : Type} (width : Nat) (f : List Byte → Option α) : Reader α := fun l =>
  if width ≤ l.length then (f (l.take width)).map fun a => (a, l.drop width) else none

/-- `n` items in a row. -/
def many {α : Type} (n : Nat) (r : Reader α) : Reader (List α) := fun l =>
  match n with
  | 0 => some ([], l)
  | n + 1 =>
    match r l with
    | some (a, l') => (many n r l').map fun x => (a :: x.1, x.2)
    | none => none

/-- A list of `n` items as a table. -/
def asTable {α : Type} (n : Nat) (l : List α) : Option (Vector α n) :=
  if h : l.toArray.size = n then some ⟨l.toArray, h⟩ else none

/-- A table of `n` records. -/
def table {α : Type} (n : Nat) (r : Reader α) : Reader (Vector α n) := fun l =>
  (many n r l).bind fun x => (asTable n x.1).map fun v => (v, x.2)

/-- One byte through a code table. -/
def oneByte {α : Type} (f : Byte → Option α) : Reader α := chunk 1 fun l => match l with
  | [b] => f b
  | _ => none

/-- A patch record: its six field groups in order (12.5, R54). -/
def readPatch : Reader PatchRec := chunk 17 fun l =>
  (splitPatch 63 patchGroups l).bind fun gs =>
    (everyOk (gs.map fun g => patchWrite g.1 g.2)).toOption.map fun ws => ws.foldl (fun p w => w p) PatchRec.blank

/-- A window record: its nine field groups in order (12.3). -/
def readWindow : Reader WindowRec := chunk 22 fun l =>
  (splitGroups 511 FieldGroup.all l).bind fun gs =>
    (everyOk (gs.map fun g => fieldValue g.1 g.2)).toOption.map fun vs => vs.foldl WindowRec.write WindowRec.blank

def readShot : Reader ShotEntry := chunk 6 fun l => match l with
  | [w3, w2, w1, w0, g1, g0] => some ⟨be32 w3 w2 w1 w0, BitVec.ofNat 16 (be16 g1 g0)⟩
  | _ => none

def readLine : Reader (Bool × Nat × Nat) := chunk 5 fun l => match l with
  | [e, s1, s0, b1, b0] =>
    (flag? e).map fun e => (e, clampNat 24 512 (be16 s1 s0), clampNat 88 1000 (be16 b1 b0))
  | _ => none

def readLink : Reader WallLink := chunk 11 fun l => match l with
  | [x1, x0, y1, y0, w1, w0, h1, h0, b1, b0, e] =>
    (flag? e).map fun e =>
      { (WallLink.blank.setRect (be16 x1 x0) (be16 y1 y0) (be16 w1 w0) (be16 h1 h0)) with
        brightness := clampNat 0 256 (be16 b1 b0), enabled := e }
  | _ => none

/-- A hold limit, two bytes as SET_SOURCE carries it (12.4). -/
def readHold : Reader Nat := chunk 2 fun l => match l with
  | [h1, h0] => some (clampNat 0 255 (be16 h1 h0))
  | _ => none

def readSet : Reader TransitionSet := chunk 3 fun l => match l with
  | [d1, d0, c] => (curve? c).map fun c => ⟨clampNat 1 255 (be16 d1 d0), c⟩
  | _ => none

def readTiming : Reader TimingValues := chunk 9 fun l => match l with
  | [r, g1, g0, t1, t0, f1, f0, w1, w0] =>
    (rate? r).map fun r =>
      ⟨r, be16 g1 g0, clampNat 1 65535 (be16 t1 t0), be16 f1 f0, clampNat 0 256 (be16 w1 w0)⟩
  | _ => none

def readPort : Reader (PortRole × LineRate) := chunk 2 fun l => match l with
  | [r, s] => (portRole? r).bind fun r => (lineRate? s).map fun s => (r, s)
  | _ => none

def readChannel : Reader ChannelRec := chunk 5 fun l => match l with
  | [v1, v0, d1, d0, c] => (curve? c).map fun c => ⟨be16 v1 v0, be16 d1 d0, c⟩
  | _ => none

def readFill : Reader RGB := chunk 3 fun l => match l with
  | [r, g, b] => some ⟨r.toNat, g.toNat, b.toNat⟩
  | _ => none

def readBank : Reader Bank := fun l => do
  let (windows, l) ← table 32 readWindow l
  let (fill, l) ← readFill l
  let (channels, l) ← table 1024 readChannel l
  some (⟨windows, fill, channels⟩, l)

/-- A cue record, prefixed with its stack and cue number (12.9). -/
def readCue : Reader Cue := fun l =>
  match l with
  | k :: n1 :: n0 :: rest =>
    match rest[10]?, (index 8 k.toNat).toOption with
    | some count, some k =>
      if 1 ≤ be16 n1 n0 ∧ be16 n1 n0 ≤ 9999 then
        (chunk (11 + 12 * count.toNat) (fun l => (cueBody l).toOption) rest).map fun x =>
          (⟨k, be16 n1 n0, x.1⟩, x.2)
      else none
    | _, _ => none
  | _ => none

def readCount : Reader Nat := chunk 2 fun l => match l with
  | [h, lo] => some (be16 h lo)
  | _ => none

/-- The body read field by field. -/
def readBody : Reader ImageBody := fun l => do
  let (patch, l) ← table 1024 readPatch l
  let (shotMap, l) ← table 16 readShot l
  let (windowGuards, l) ← table 32 (oneByte guard?) l
  let (groupGuards, l) ← table 16 (oneByte guard?) l
  let (routing, l) ← table 16 (oneByte fun b => some (BitVec.ofNat 4 b.toNat)) l
  let (lines, l) ← table 8 readLine l
  let (links, l) ← table 4 readLink l
  let (holdLimits, l) ← table 4 readHold l
  let (sets, l) ← table 4 readSet l
  let (timing, l) ← readTiming l
  let (ports, l) ← table 4 readPort l
  let (bankA, l) ← readBank l
  let (bankB, l) ← readBank l
  let (program, l) ← oneByte bankName? l
  let (count, l) ← readCount l
  let (store, l) ← many count readCue l
  let (levels, l) ← table 8 (oneByte fun b => some (clampNat 1 7 b.toNat)) l
  some (
    { patch, shotMap, windowGuards, groupGuards, routing, lines, links, holdLimits, sets, timing
      roles := mapTab Prod.fst ports
      rates := mapTab Prod.snd ports
      bankA, bankB, program, store, levels }, l)

/-! ### Good images (R186) -/

/-- No two patched channels occupy one slot of a line. -/
def patchesApart (patch : Vector PatchRec 1024) : Bool :=
  decide ((patch.toList.filter fun p => p.line.isSome).Pairwise fun p q => p.overlaps q = false)

/-- No line's slot count lies below a slot patched to it. -/
def slotsCovered (patch : Vector PatchRec 1024) (lines : Vector (Bool × Nat × Nat) 8) : Bool :=
  patch.toList.all fun p => match p.line with
    | some l => decide (p.lastSlot ≤ (lines[l]).2.1)
    | none => true

/-- The store in ascending stack and then ascending cue number, so that no number stands twice in one stack. -/
def storeOrdered (store : List Cue) : Bool := decide (store.Pairwise fun a c => a.before c = true)

/-- The laws that the owning blocks keep, as R186 names them. -/
def ImageBody.lawful (b : ImageBody) : Bool :=
  patchesApart b.patch && slotsCovered b.patch b.lines && storeOrdered b.store
  && decide (b.store.length ≤ 1024) && decide ((b.store.map fun q => q.body.actions.length).sum ≤ 4096)

/-- The body that the bytes hold: read to their end, every field within its range (a field out of range is not what its
record writes back), and keeping the laws. -/
def goodBody (l : List Byte) : Option ImageBody :=
  match readBody l with
  | some (b, []) => if decide (b.bytes = l) && b.lawful then some b else none
  | _ => none

/-- The image read from the store: its body when it is good (R186, 12.9). -/
def loadImage (stored : Option (List Byte)) : Option ImageBody :=
  match stored with
  | some (i3 :: i2 :: i1 :: i0 :: v :: r2 :: r1 :: r0 :: l3 :: l2 :: l1 :: l0 :: c3 :: c2 :: c1 :: c0 :: rest) =>
    let len := (be32 l3 l2 l1 l0).toNat
    let body := rest.take len
    if be32 i3 i2 i1 i0 = 0x4E563431 ∧ v = 1 ∧ allZero [r2, r1, r0] ∧ len ≤ 131072 ∧ body.length = len
        ∧ crc32 body = be32 c3 c2 c1 c0 then goodBody body
    else none
  | _ => none

/-! ### Hard reset (R1, R15, R186, R189) -/

/-- Port 0 is made ENGINEERING when no port is (R135). -/
def withEngineer (roles : Vector PortRole 4) : Vector PortRole 4 :=
  if roles.toList.any fun r => decide (r = .engineering) then roles else roles.set 0 .engineering

/-- The part after hard reset with a body loaded or defaulted, before the emergency input is taken: every block at its
reset values. -/
def State.boot (s : State) (b : ImageBody) (good : Bool) : State :=
  { ref :=
      { counter := 0, lock := .free, flywheel := 0, lead := 0, rate := b.timing.rate, frameRate := b.timing.rate,
        origin := .clock, windowOpen := true, markDue := none, lastEvent := 0, expiry := b.timing.rate.period }
    scene := { bankA := b.bankA, bankB := b.bankB, program := b.program, trans := .idle }
    wall :=
      { sources := mapTab SourcePort.start b.holdLimits
        sets := b.sets
        links := b.links
        lum := Vector.replicate 32 0
        count := Vector.replicate 32 0
        scan := none }
    level :=
      { patch := b.patch
        masters := Vector.replicate 16 256
        clipFlags := 0
        clipCounts := Vector.replicate 16 0
        contexts := Vector.replicate 1024 .rest
        results := Vector.replicate 1024 ⟨0, false⟩
        releaseFade := 0
        comp := none }
    lines := mapTab (fun l : Bool × Nat × Nat => Line.start l.1 l.2.1 l.2.2) b.lines
    cue := CueUnit.restart { store := b.store, recs := mapTab StackRec.start b.levels, lateGrace := b.timing.lateGrace }
    takeover :=
      { stack := [], overrides := [], latch := false, emergency := false, safetyFade := b.timing.safetyFade,
        safetyWall := b.timing.safetyWall }
    access :=
      { roles := withEngineer b.roles
        pages := Vector.replicate 4 0
        patchLock := false
        shotLock := false
        claims := Vector.replicate 64 none
        timeout := b.timing.timeout }
    tally :=
      { lines := 0
        shotMap := b.shotMap
        windowGuards := b.windowGuards
        groupGuards := b.groupGuards
        inShotWindows := 0
        inShotGroups := 0
        queue := [] }
    ports := { port := mapTab PortState.start b.rates, routing := b.routing }
    image := { stored := s.image.stored, valid := good, loaded := good, saving := none }
    choices := s.choices
    pending := s.pending }

/-- The part after hard reset, up to the emergency input: the image loaded if it is good, the defaults otherwise. -/
def State.load (s : State) : State :=
  match loadImage s.image.stored with
  | some b => s.boot b true
  | none => s.boot .defaults false

/-- HARD_RESET (R186, R133): `emergency` is the emergency input as it stands at the end of the reset. -/
def execHardReset (emergency : Bool) (s : State) : Host.Outcome State Fault Refusal :=
  (s.load.setSafety emergency false).done

/-! ### Saving (R187, R188) -/

/-- The snapshot of a save: every item of the body as it stands (R187). -/
def State.snapshot (s : State) : ImageBody :=
  { patch := s.level.patch
    shotMap := s.tally.shotMap
    windowGuards := s.tally.windowGuards
    groupGuards := s.tally.groupGuards
    routing := s.ports.routing
    lines := mapTab (fun l : Line => (l.enabled, l.slots, l.breakLen)) s.lines
    links := s.wall.links
    holdLimits := mapTab SourcePort.holdLimit s.wall.sources
    sets := s.wall.sets
    timing := ⟨s.ref.rate, s.cue.lateGrace, s.access.timeout, s.takeover.safetyFade, s.takeover.safetyWall⟩
    roles := s.access.roles
    rates := mapTab PortState.rate s.ports.port
    bankA := s.scene.bankA
    bankB := s.scene.bankB
    program := s.scene.program
    store := s.cue.store
    levels := mapTab StackRec.level s.cue.recs }

/-- SAVE_IMAGE, from the port that sends it (R187). -/
def takeSaveImage (p : Port) (payload : List Byte) (s : State) : Answer :=
  match payload with
  | [] =>
    match s.image.saving with
    | some _ => refuse s .busy
    | none => okay { s with image := { s.image with
        stored := none
        valid := false
        saving := some ⟨p, s.ref.counter, s.snapshot⟩ } }
  | _ => refuse s .format

/-- The save in progress ends without completion: the image stays INVALID, and IMAGE_FAIL goes to the port that asked;
no save, no end (R188; DESIGN CHOICE, log entry 4). -/
def State.failSave (s : State) (cause : ImageFailCause) : State :=
  match s.image.saving with
  | none => s
  | some v =>
    State.raiseTo { s with image := { s.image with saving := none } } (onlyPort v.port)
      (.imageFail v.frame s.ref.counter cause)

/-- SAVE_COMPLETION (R188): everything written reads back as the snapshot. -/
def execSaveCompletion (s : State) : Host.Outcome State Fault Refusal :=
  match s.image.saving with
  | none => .next s
  | some v =>
    (State.raiseTo { s with image := { s.image with
        stored := some v.snapshot.image
        valid := true
        saving := none } } (onlyPort v.port) (.imageDone v.frame s.ref.counter)).done

/-- SAVE_VERIFY_FAILURE (R188): a part of the write does not read back as written. -/
def execSaveVerifyFailure (s : State) : Host.Outcome State Fault Refusal := (s.failSave .verify).done

/-- SAVE_TIMEOUT (R188): 2 seconds pass from acceptance without completion. -/
def execSaveTimeout (s : State) : Host.Outcome State Fault Refusal := (s.failSave .timeout).done

end Sys2Proof.Machine
end

