-- ==== Sys2Proof/Machine/Reads.lean ====
section
/-! DEFINITION. The ten READs (R178, spec/12_formats.md 12.5): each reply carries the fields that the owning chapters
list, in their order, at the widths of R191 (DEDUCED, log entry 12). -/

namespace Sys2Proof.Machine

/-! ### STATUS -/

def RefUnit.status (r : RefUnit) : List Byte :=
  frameBytes r.counter ++ u8 r.lock.code ++ u8 r.flywheel ++ u8 r.lead ++ u8 r.rate.code

/-- The transition context (R24, R32); N and k take a byte each, and the set and the curve a presence byte (DEDUCED, log
entry 12). -/
def Transition.status : Transition → List Byte
  | .idle =>
    flagByte false ++ optional 1 u8 none ++ flagByte false ++ optional 1 u8 none ++ u8 0 ++ optional 1 u8 none ++ u8 0
    ++ flagByte false
  | .pending n =>
    flagByte true ++ optional 1 u8 (some n.val) ++ flagByte false ++ optional 1 u8 none ++ u8 0
    ++ optional 1 u8 none ++ u8 0 ++ flagByte false
  | .running r =>
    flagByte false ++ optional 1 u8 none ++ flagByte true ++ optional 1 u8 (some r.set.val) ++ u8 r.frames
    ++ optional 1 u8 (some r.curve.code) ++ u8 r.k ++ flagByte r.hurry

def SceneMemory.status (m : SceneMemory) : List Byte :=
  u8 m.program.code ++ (m.bank m.program).fill.bytes ++ (m.bank m.program.other).fill.bytes ++ m.trans.status

def WallMapper.status (w : WallMapper) : List Byte :=
  w.sets.toList.flatMap TransitionSet.bytes ++ w.links.toList.flatMap WallLink.bytes

def LevelEngine.status (e : LevelEngine) : List Byte :=
  e.masters.toList.flatMap u16 ++ ((List.finRange 16).flatMap fun g => flagByte (e.clipFlags.getLsbD g.val))
  ++ e.clipCounts.toList.flatMap u16 ++ u16 e.releaseFade

def CueUnit.status (c : CueUnit) : List Byte := u16 c.freeRecords ++ u16 c.freeSlots

def PreEntry.bytes : PreEntry → List Byte
  | .level l k => u8 l ++ optional 1 u8 (some k.val)
  | .safety => u8 8 ++ optional 1 u8 none

/-- The Takeover Unit's part, with the stacks whose pending GO is set (R134). The emergency input is sent as 1 asserted
and 0 clear, and the stacks as a set of one byte (DEDUCED, log entry 12). -/
def TakeoverUnit.status (t : TakeoverUnit) (recs : Vector StackRec 8) : List Byte :=
  u8 t.stack.length ++ t.stack.flatMap PreEntry.bytes ++ u8 t.mask ++ flagByte t.inForce ++ flagByte t.emergency
  ++ flagByte t.latch ++ u16 t.safetyFade ++ u16 t.safetyWall ++ u16 t.overrides.length ++ u16 t.freeEntries
  ++ u8 (setOf fun k => (recs[k]).pendingGo).toNat

/-- The ids of the claim table entries in use. -/
def AccessUnit.idsInUse (a : AccessUnit) : List ClaimId :=
  (List.finRange 64).filter fun id => (a.claims[id]).isSome

/-- The Access Unit's part (R156): the number of claim entries in use is the count of the list of their ids (DEDUCED,
log entry 12). -/
def AccessUnit.status (a : AccessUnit) : List Byte :=
  a.roles.toList.flatMap (fun r => u8 r.code) ++ a.pages.toList.flatMap (fun n => u8 n.val) ++ flagByte a.patchLock
  ++ flagByte a.shotLock ++ u16 a.timeout ++ u8 a.idsInUse.length ++ a.idsInUse.flatMap fun id => u8 id.val

/-- The Tally Unit's part; a tally line state is 0 ACTIVE or 1 INACTIVE (R191, R157). -/
def TallyUnit.status (t : TallyUnit) : List Byte :=
  ((List.finRange 16).flatMap fun i => u8 (if t.lines.getLsbD i.val then 0 else 1))
  ++ t.shotMap.toList.flatMap ShotEntry.bytes ++ u32 t.inShotWindows.toNat ++ u16 t.inShotGroups.toNat
  ++ t.windowGuards.toList.flatMap (fun g => u8 g.code) ++ t.groupGuards.toList.flatMap (fun g => u8 g.code)
  ++ u8 t.queue.length

def ErrorCounts.bytes (e : ErrorCounts) : List Byte :=
  u16 e.stray ++ u16 e.framing ++ u16 e.gap ++ u16 e.length ++ u16 e.crc ++ u16 e.overrun ++ u16 e.breaks

/-- One port's part (R178). -/
def PortState.status (p : PortState) : List Byte :=
  u8 p.rate.code ++ optional 1 (fun r : PendingRate => u8 r.rate.code) p.pendingRate ++ flagByte p.pushFlag
  ++ u8 p.queue.length ++ u8 p.overruns.length ++ p.errors.bytes ++ flagByte p.alertLine

def PortController.status (c : PortController) : List Byte :=
  c.port.toList.flatMap PortState.status ++ c.routing.toList.flatMap fun r => u8 r.toNat

/-- The Image Store's part (R190). -/
def ImageStore.status (i : ImageStore) : List Byte :=
  u8 (if i.valid then 0 else 1) ++ u8 (if i.loaded then 0 else 1) ++ u8 (if i.saving.isSome then 1 else 0)
  ++ optional 1 (fun v : Saving => u8 v.port.val) i.saving ++ optional 4 (fun v : Saving => frameBytes v.frame) i.saving

/-- READ(STATUS): the parts of the blocks in their order. -/
def State.status (s : State) : List Byte :=
  s.ref.status ++ s.scene.status ++ s.wall.status ++ s.level.status ++ s.cue.status ++ s.takeover.status s.cue.recs
  ++ s.access.status ++ s.tally.status ++ s.ports.status ++ s.image.status

/-! ### The other records -/

/-- READ(CHANNEL): 37 bytes (R76, 12.5). -/
def State.channelRecord (s : State) (role : BankRole) (n : ChannelNo) : List Byte :=
  ((s.scene.bank (s.scene.resolve role)).channels[n]).bytes ++ (s.level.patch[n]).bytes ++ (s.level.contexts[n]).bytes
  ++ u16 (s.level.results[n]).out ++ flagByte (s.level.results[n]).saturated

/-- READ(WINDOW): the nine field groups, the filtered luminance and the pixel count (R32, R52). -/
def State.windowRecord (s : State) (role : BankRole) (w : WindowNo) : List Byte :=
  ((s.scene.bank (s.scene.resolve role)).windows[w]).bytes ++ u16 s.wall.lum[w] ++ u32 s.wall.count[w]

/-- A stack's state with the counts it uses: state, wait, repeats, interval, target, grace (12.5). -/
def StackState.bytes : StackState → List Byte
  | .idle => u8 0 ++ u16 0 ++ u8 0 ++ u8 0 ++ u32 0 ++ u16 0
  | .waiting n => u8 1 ++ u16 n ++ u8 0 ++ u8 0 ++ u32 0 ++ u16 0
  | .repeating r i => u8 2 ++ u16 0 ++ u8 r ++ u8 i ++ u32 0 ++ u16 0
  | .armed f g => u8 3 ++ u16 0 ++ u8 0 ++ u8 0 ++ frameBytes f ++ u16 g
  | .ended => u8 4 ++ u16 0 ++ u8 0 ++ u8 0 ++ u32 0 ++ u16 0

/-- READ(STACK) (R112, 12.5). -/
def State.stackRecord (s : State) (k : StackNo) : List Byte :=
  let r := s.cue.recs[k]
  u8 r.level ++ u16 (r.position.getD 0) ++ r.state.bytes
  ++ (match r.loop with
    | some c => u8 1 ++ u16 c.startCue ++ u8 c.remaining
    | none => u8 0 ++ u16 0 ++ u8 0)
  ++ flagByte r.chainedGo ++ flagByte r.pendingGo ++ u16 r.skipped
  ++ (match s.access.stackOwner k with
    | some p => u8 p.val
    | none => [0xFF])

/-- The numbers of a stack's list as READ(CUE) with cue number 0 returns them: the first 506 (R112, 12.6). -/
def CueUnit.listRecord (c : CueUnit) (k : StackNo) : List Byte :=
  let l := (c.numbers k).take 506
  u16 l.length ++ l.flatMap u16

/-- READ(LINE) (R86). One presence byte stands before the three fields of the in-flight copy, which are present or
absent together (DEDUCED, log entry 12). -/
def Line.bytes (l : Line) : List Byte :=
  flagByte l.enabled ++ u16 l.slots ++ u16 l.breakLen ++ u8 (if l.inFlight.isSome then 1 else 0)
  ++ optional 8 (fun f : InFlight => frameBytes f.frame ++ u16 f.slots ++ u16 f.breakLen) l.inFlight
  ++ optional 4 frameBytes l.lastPacket ++ optional 4 (fun w : Waiting => frameBytes w.frame) l.waiting ++ u16 l.skips

/-- READ(SOURCE): 0 by 0 when no frame is held (R53); the hold limit has the width of SET_SOURCE (12.4). -/
def SourcePort.bytes (p : SourcePort) : List Byte :=
  u8 p.state.code ++ u16 p.holdCount ++ u16 p.holdLimit
  ++ (match p.held with
    | some f => u16 f.width ++ u16 f.height
    | none => u16 0 ++ u16 0)

/-- The entries of one key, by level. -/
def entriesOf (table : List Override) (key : OverrideKey) : List Override :=
  [5, 6, 7].filterMap (overrideAt table key)

/-- One entry as READ(OVERRIDE) lists it. R134 marks the entry in force and gives the mark no form: it is a yes/no byte
at the end of every entry, 1 at the one in force for its channel or window field group (DEDUCED, log entry 12). -/
def Override.bytes (table : List Override) (e : Override) : List Byte :=
  (match e.item with
    | .channel _ v d => u8 e.level ++ u16 v ++ u16 d
    | .window _ v => u8 v.group.number ++ u8 e.level ++ v.bytes)
  ++ u8 e.origin.val ++ flagByte (decide (overrideInForce table e.item.key = some e))

/-- A list of override entries with its count. -/
def overrideList (table : List Override) (l : List Override) : List Byte :=
  u8 l.length ++ l.flatMap (Override.bytes table)

/-- READ(OVERRIDE) answers NOT_FOUND where the table holds no entry for the item (10.4, the reply codes; DEDUCED, log
entry 14). -/
def readOverrides (s : State) (l : List Override) : Answer :=
  if l.isEmpty then refuse s .notFound else ⟨.ok, overrideList s.takeover.overrides l, s⟩

/-! ### READ -/

/-- OK with data, from a request that changes nothing. -/
def report (s : State) (data : List Byte) : Answer := ⟨.ok, data, s⟩

/-- A READ whose qualifier is reserved, of a record with an index below `n`. -/
def readPlain (s : State) (n : Nat) (q : Byte) (i : Nat) (f : Fin n → Answer) : Answer :=
  withFields s (both (needFormat (decide (q = 0))) (index n i)) fun (_, i) => f i

/-- READ(CUE): one record, or the numbers of the list for cue number 0 (R112; DEDUCED, log entry 27). -/
def readCueRecord (s : State) (q : Byte) (i : Nat) : Answer :=
  withFields s (both (index 8 q.toNat) (needRange (decide (i ≤ 9999)))) fun (k, _) =>
    if i = 0 then report s (s.cue.listRecord k)
    else match s.cue.find k i with
      | some c => report s c.body.bytes
      | none => refuse s .notFound

/-- READ of a record kind (R178, 12.5). -/
def readKind (s : State) (kind q : Byte) (i : Nat) : Answer :=
  match kind.toNat with
  | 0 => withFields s (needFormat (decide (q = 0 ∧ i = 0))) fun _ => report s s.status
  | 1 => withFields s (both (orFormat (bankRole? q)) (index 1024 i)) fun (role, n) => report s (s.channelRecord role n)
  | 2 => withFields s (both (orFormat (bankRole? q)) (index 32 i)) fun (role, w) => report s (s.windowRecord role w)
  | 3 => readPlain s 64 q i fun id => match s.access.claims[id] with
    | some c => report s c.bytes
    | none => refuse s .notFound
  | 4 => readPlain s 8 q i fun k => report s (s.stackRecord k)
  | 5 => readCueRecord s q i
  | 6 => readPlain s 8 q i fun l =>
    ⟨.ok, (s.lines[l]).bytes, s.modLine l fun x => { x with skipArmed := true }⟩
  | 7 => readPlain s 4 q i fun p => report s (s.wall.sources[p]).bytes
  | 8 => readPlain s 32 q i fun n => match s.tally.queue[n.val]? with
    | some d => report s (u8 s.tally.queue.length ++ d.bytes)
    | none => refuse s .notFound
  | 9 =>
    if q = 0 then withFields s (index 1024 i) fun n =>
      readOverrides s (entriesOf s.takeover.overrides (.channel n))
    else if q = 1 then withFields s (index 32 i) fun w =>
      readOverrides s (FieldGroup.all.flatMap fun g => entriesOf s.takeover.overrides (.window w g))
    else refuse s .format
  | _ => refuse s .format

/-- READ(kind, qualifier, index). -/
def takeRead (payload : List Byte) (s : State) : Answer :=
  match payload with
  | [kind, q, i1, i0] => readKind s kind q (be16 i1 i0)
  | _ => refuse s .format

end Sys2Proof.Machine
end

