-- ==== Sys2Proof/Machine/PortRequests.lean ====
section
/-! DEFINITION. The requests of the Port Controller's own chapter: SET_ROUTE, SET_TIMING, READ_ALERTS and SHOW_RESET
(spec/10_control_ports_and_alerts.md, R2). -/

namespace Sys2Proof.Machine

/-- SET_ROUTE(kind, set) (R179). -/
def takeSetRoute (payload : List Byte) (s : State) : Answer :=
  match payload with
  | [kind, set] =>
    match routeSlot kind.toNat with
    | some i =>
      if set.toNat < 16 then
        okay { s with ports := { s.ports with routing := s.ports.routing.set i (BitVec.ofNat 4 set.toNat) } }
      else refuse s .format
    | none => refuse s .format
  | _ => refuse s .format

/-! ### SET_TIMING -/

/-- The PORT_RATE fields of a SET_TIMING; a partial field does not fit (R172). -/
def portRates : List Byte → Option (List (Except ReplyCode (Port × LineRate)))
  | [] => some []
  | p :: r :: rest =>
    (portRates rest).map fun l =>
      (match both (orFormat (lineRate? r)) (index 4 p.toNat) with
        | .ok (r, p) => .ok (p, r)
        | .error c => .error c) :: l
  | _ => none

/-- A carried rate: pending when it differs from the port's present rate, waiting for the reply on the sending port;
none pending when it does not (R172). -/
def State.setPortRate (s : State) (sender : Port) (x : Port × LineRate) : State :=
  s.modPort x.1 fun p => { p with pendingRate := if x.2 = p.rate then none else some ⟨x.2, some sender⟩ }

/-- The timing values that a SET_TIMING carries, stored at once in the blocks that own them (R2, R101, R131, R154). -/
def State.setTiming (s : State) (pres : Byte) (rate : Option Rate) (grace timeout fade wall : Nat) : State :=
  { s with
    ref := { s.ref with rate := rate.getD s.ref.rate }
    cue := { s.cue with lateGrace := if pres.getLsbD 1 then grace else s.cue.lateGrace }
    access := { s.access with timeout := if pres.getLsbD 2 then clampNat 1 65535 timeout else s.access.timeout }
    takeover := { s.takeover with
      safetyFade := if pres.getLsbD 3 then fade else s.takeover.safetyFade
      safetyWall := if pres.getLsbD 4 then clampNat 0 256 wall else s.takeover.safetyWall } }

/-- SET_TIMING (R2, R172, 12.4): every field takes effect, or none does. -/
def takeSetTiming (p : Port) (payload : List Byte) (s : State) : Answer :=
  match payload with
  | pres :: r :: g1 :: g0 :: t1 :: t0 :: f1 :: f0 :: w1 :: w0 :: rest =>
    match portRates rest with
    | none => refuse s .format
    | some rates =>
      let reserved := (pres.getLsbD 1 || allZero [g1, g0]) && (pres.getLsbD 2 || allZero [t1, t0])
        && (pres.getLsbD 3 || allZero [f1, f0]) && (pres.getLsbD 4 || allZero [w1, w0])
      let fields := both
        (both (needFormat (decide (pres.toNat < 32) && decide (rates.length ≤ 4)
            && !(decide (pres = 0) && rates.isEmpty) && reserved))
          (if pres.getLsbD 0 then (orFormat (rate? r)).map some else (needFormat (allZero [r])).map fun _ => none))
        (everyOk rates)
      withFields s fields fun ((_, rate), rates) =>
        let s1 := s.setTiming pres rate (be16 g1 g0) (be16 t1 t0) (be16 f1 f0) (be16 w1 w0)
        okay (rates.foldl (fun s x => s.setPortRate p x) s1)
  | _ => refuse s .format

/-! ### READ_ALERTS -/

/-- The alert set as READ_ALERTS returns it: the kinds in ascending number, each with count, length and detail (12.5).
-/
def PortState.alertRecord (p : PortState) : List Byte :=
  let l := (List.finRange 22).filterMap fun k => (p.alerts[k]).map fun e => (k, e)
  u8 l.length ++ l.flatMap fun x =>
    u8 x.1.val ++ u8 x.2.count ++ u8 x.2.alert.detail.length ++ x.2.alert.detail

/-- The set read and emptied, and then the push flag taken (R184). -/
def State.readAlerts (s : State) (p : Port) (push : Option Bool) : Answer :=
  ⟨.ok, (s.ports.port[p]).alertRecord,
   s.modPort p fun x => { x with alerts := Vector.replicate 22 none, pushFlag := push.getD x.pushFlag }⟩

/-- READ_ALERTS(push), on the sending port (R184). -/
def takeReadAlerts (p : Port) (payload : List Byte) (s : State) : Answer :=
  match payload with
  | [] => s.readAlerts p none
  | [b] => withFields s (orFormat (flag? b)) fun push => s.readAlerts p (some push)
  | _ => refuse s .format

/-! ### SHOW_RESET -/

/-- SHOW_RESET at every block that holds show state (R180): the transition context, the stacks, the takeovers with the
last release fade, the handovers and the deferred queue. -/
def State.showReset (s : State) : State :=
  let s1 := { s with
    scene := { s.scene with trans := .idle }
    cue := s.cue.restart
    tally := { s.tally with queue := [] } }
  s1.resetTakeover.endHandovers

/-- SHOW_RESET (R180). -/
def takeShowReset (payload : List Byte) (s : State) : Answer :=
  match payload with
  | [] => okay s.showReset
  | _ => refuse s .format

end Sys2Proof.Machine
end

