-- ==== Sys2Proof/Machine/Ports.lean ====
section
/-! DEFINITION. Port Controller (spec/10_control_ports_and_alerts.md): the receiver, the taking of a request, the
arbiter of a transmitter, and the events on a port's line. -/

namespace Sys2Proof.Machine

/-! ### A request is taken (R177) -/

/-- A request that has passed the Access Unit, at the block that owns what it names, by its code (12.2). -/
def takeByCode (p : Port) (code : Byte) (payload : List Byte) (s : State) : Answer :=
  match code.toNat with
  | 0x01 => takeRead payload s
  | 0x02 => takeReadAlerts p payload s
  | 0x03 => takeClearClip payload s
  | 0x04 => takeSetLevel p payload s
  | 0x05 => takeSetLevelsShort p payload s
  | 0x06 => takeSetWindow p payload s
  | 0x07 => takeSetFill payload s
  | 0x08 => takeSetMaster p payload s
  | 0x09 => takeTake payload s
  | 0x0A => takeCopy payload s
  | 0x0B => takeStoreCue payload s
  | 0x0C => takeDeleteCue payload s
  | 0x0D => takeSetStack payload s
  | 0x0E => takeGo payload s
  | 0x0F => takeArm payload s
  | 0x10 => takeHalt payload s
  | 0x11 => takeResetStack payload s
  | 0x12 => takeReleaseLevel payload s
  | 0x13 => takeClaim p payload s
  | 0x14 => takeUnclaim p payload s
  | 0x15 => takeAsk p payload s
  | 0x16 => takeYield p payload s
  | 0x17 => takeDropClaim payload s
  | 0x18 => takeSetRole payload s
  | 0x19 => takeSetPage p payload s
  | 0x1A => takeSetShotMap payload s
  | 0x1B => takeSetGuard payload s
  | 0x1C => takeSetPatch payload s
  | 0x1D => takeSetLine payload s
  | 0x1E => takeSetWallLink payload s
  | 0x1F => takeSetSource payload s
  | 0x20 => takeSetTransition payload s
  | 0x21 => takeSetRoute payload s
  | 0x22 => takeSetTiming p payload s
  | 0x23 => takeSetFrame payload s
  | 0x24 => takeSetSafety payload s
  | 0x25 => takeLock payload s
  | 0x26 => takeSaveImage p payload s
  | 0x27 => takeShowReset payload s
  | _ => refuse s .format

/-- The code names a request (12.2). -/
def knownCode (code : Byte) : Bool := decide (0x01 ≤ code.toNat) && decide (code.toNat ≤ 0x27)

/-- The answer of a request taken on port `p`: FORMAT for an unknown code, the Access Unit's checks, and then the owning
block (R177). -/
def State.answer (s : State) (p : Port) (code : Byte) (payload : List Byte) : Answer :=
  if knownCode code then
    match s.accessCheck p code payload with
    | some a => a
    | none => takeByCode p code payload s
  else refuse s .format

/-- A request taken on port `p` and its reply started: the reply carries the counter as it stood when the request was
taken (R176, R192). -/
def State.takeRequest (s : State) (p : Port) (q : Queued) : State :=
  let a := s.answer p q.code q.payload
  a.state.modPort p fun x => { x with tx := some (.reply q.code q.tag a.code s.ref.counter a.data) }

/-- The arbiter of port `p`: an IDLE transmitter starts the notice owed, or the oldest owed OVERRUN reply, or takes the
request at the head of the queue (R176). -/
def State.arbitrate (s : State) (p : Port) : State :=
  let x := s.ports.port[p]
  match x.tx, x.noticeOwed, x.overruns, x.queue with
  | some _, _, _, _ => s
  | none, true, _, _ => s.modPort p fun y => y.startNotice s.ref.counter
  | none, false, o :: os, _ =>
    s.modPort p fun y => { y with tx := some (.overrun o.code o.tag o.frame), overruns := os }
  | none, false, [], q :: qs => (s.modPort p fun y => { y with queue := qs }).takeRequest p q
  | none, false, [], [] => s

/-! ### Receiving (R173, R174) -/

/-- A request received whole: it joins the queue, or is dropped with OVERRUN when 4 wait already (R174). -/
def PortState.enqueue (x : PortState) (q : Queued) (now : Frame) : PortState :=
  if x.queue.length < 4 then { x with queue := x.queue ++ [q] }
  else
    let y := x.bump .overrun
    if x.overruns.length < 4 then { y with overruns := y.overruns ++ [⟨q.code, q.tag, now⟩] } else y

/-- A request received whole on port `p`, and what the arbiter then starts. -/
def State.receive (s : State) (p : Port) (q : Queued) : State :=
  (s.modPort p fun x => x.enqueue q s.ref.counter).arbitrate p

/-- A whole frame at its second CRC byte: its request is received, or the frame is discarded and counted (R174). -/
def State.checkFrame (s : State) (p : Port) (body : List Byte) (crc : BitVec 16) : State :=
  match body with
  | code :: tag :: payload =>
    if 1020 < payload.length then s.modPort p fun x => x.bump .length
    else if crc16 (u16 body.length ++ body) = crc then s.receive p ⟨code, tag, payload⟩
    else s.modPort p fun x => x.bump .crc
  | _ => s.modPort p fun x => x.bump .length

/-- What a completed byte brings about beside the receiver's new state (R173). -/
inductive RxEvent where
  | quiet
  | stray
  | badLength
  | frame (body : List Byte) (crc : BitVec 16)
  deriving DecidableEq, Repr

/-- The receiver takes a byte: the table of R173. -/
def Receiver.byte (r : Receiver) (b : Byte) : Receiver × RxEvent :=
  match r with
  | .hunt => if b = 0xC3 then (.length none, .quiet) else (.hunt, .stray)
  | .length none => (.length (some b), .quiet)
  | .length (some h) =>
    if 2 ≤ be16 h b ∧ be16 h b ≤ 1022 then (.body (be16 h b) [], .quiet) else (.hunt, .badLength)
  | .body n got =>
    if got.length + 1 < n then (.body n (got ++ [b]), .quiet) else (.check (got ++ [b]) none, .quiet)
  | .check whole none => (.check whole (some b), .quiet)
  | .check whole (some c) => (.hunt, .frame whole (BitVec.ofNat 16 (be16 c b)))

/-- What follows from a byte on port `p`, its receiver already in its new state. -/
def State.rxEvent (s : State) (p : Port) : RxEvent → State
  | .quiet => s
  | .stray => s.modPort p fun x => x.bump .stray
  | .badLength => s.modPort p fun x => x.bump .length
  | .frame body crc => s.checkFrame p body crc

/-- The receiver of a port in a given state. -/
def State.setReceiver (s : State) (p : Port) (r : Receiver) : State := s.modPort p fun x => { x with receiver := r }

/-- A byte completed on port `p` (R173). -/
def State.byteIn (s : State) (p : Port) (b : Byte) : State :=
  let r := (s.ports.port[p]).receiver.byte b
  (s.setReceiver p r.1).rxEvent p r.2

/-- BYTE_COMPLETED (R173). -/
def execByteCompleted (p : Port) (b : Byte) (s : State) : Host.Outcome State Fault Refusal := (s.byteIn p b).done

/-- FRAME_RECEIVED (R174): the frame's second CRC byte completes, and the receiver is in HUNT (DESIGN CHOICE, log
entry 23). -/
def execFrameReceived (p : Port) (body : List Byte) (crc : BitVec 16) (s : State) :
    Host.Outcome State Fault Refusal :=
  ((s.setReceiver p .hunt).checkFrame p body crc).done

/-- The receiver holds a frame in assembly: LENGTH, BODY or CHECK. -/
def Receiver.inFrame : Receiver → Bool
  | .hunt => false
  | _ => true

/-- GAP (R175): the partial frame is discarded and counted; in HUNT there is none. -/
def execGap (p : Port) (s : State) : Host.Outcome State Fault Refusal :=
  if (s.ports.port[p]).receiver.inFrame then
    .next (s.modPort p fun x => { (x.bump .gap) with receiver := .hunt })
  else .next s

/-- FRAMING (R175): counted in every state, and a frame in assembly is discarded. -/
def execFraming (p : Port) (s : State) : Host.Outcome State Fault Refusal :=
  .next (s.modPort p fun x => { (x.bump .framing) with receiver := .hunt })

/-- BREAK (R175): the receiver, the request queue and the owed OVERRUN replies are cleared; all else is kept. -/
def execLineBreak (p : Port) (s : State) : Host.Outcome State Fault Refusal :=
  .next (s.modPort p fun x => { (x.bump .breaks) with receiver := .hunt, queue := [], overruns := [] })

/-! ### The end of a frame sent (R172, R176, R183) -/

/-- A port's pending rate as it stands once port `done` has sent its frame in full. -/
def PortState.rateReady (x : PortState) (done : Port) : PortState :=
  { x with pendingRate := x.pendingRate.map fun r => if r.waitsFor = some done then { r with waitsFor := none } else r }

/-- An IDLE port with a pending rate that waits for nothing takes it: the receiver returns to HUNT, and a frame partly
received is counted in FRAMING (R172). -/
def PortState.takeRate (x : PortState) : PortState :=
  match x.pendingRate, x.tx with
  | some ⟨rate, none⟩, none =>
    let y := if x.receiver.inFrame then x.bump .framing else x
    { y with rate := rate, pendingRate := none, receiver := .hunt }
  | _, _ => x

/-- The transmitter of port `p` has sent its frame: it is IDLE, rate changes that waited for it are made, and the
arbiter chooses again. -/
def State.transmitEnd (s : State) (p : Port) : State :=
  match (s.ports.port[p]).tx with
  | none => s
  | some _ =>
    let s1 := s.modPort p fun x => { x with tx := none }
    let s2 := { s1 with ports := { s1.ports with
      port := mapTab (fun x : PortState => (x.rateReady p).takeRate) s1.ports.port } }
    s2.arbitrate p

/-- TRANSMIT_END (R176). -/
def execTransmitEnd (p : Port) (s : State) : Host.Outcome State Fault Refusal := (s.transmitEnd p).done

/-- ALERT_NOTICE (R183): the end of a frame at which an owed notice starts (DESIGN CHOICE, log entry 24). -/
def execAlertNotice (p : Port) (s : State) : Host.Outcome State Fault Refusal :=
  if (s.ports.port[p]).noticeOwed then (s.transmitEnd p).done else .next s

/-- OVERRUN_REPLY (R176): the end of a frame at which an owed OVERRUN reply starts (DESIGN CHOICE, log entry 24). -/
def execOverrunReply (p : Port) (s : State) : Host.Outcome State Fault Refusal :=
  if !(s.ports.port[p]).noticeOwed && !(s.ports.port[p]).overruns.isEmpty then (s.transmitEnd p).done else .next s

/-- The port whose end of frame lets port `p` change its rate, when one does (R172). -/
def State.rateGate (s : State) (p : Port) : Option Port :=
  match (s.ports.port[p]).pendingRate with
  | none => none
  | some r =>
    let gate := r.waitsFor.getD p
    if gate = p ∨ (s.ports.port[p]).tx = none then some gate else none

/-- PORT_RATE_CHANGE (R172): the end of a frame at which a port's pending rate becomes its line rate (DESIGN CHOICE,
log entry 24). -/
def execPortRateChange (p : Port) (s : State) : Host.Outcome State Fault Refusal :=
  match s.rateGate p with
  | some gate => (s.transmitEnd gate).done
  | none => .next s

end Sys2Proof.Machine
end

