-- ==== Sys2Proof/Machine/Requests.lean ====
section
/-! DEFINITION. One meaning per request row: the request is received whole on its port, and is taken as soon as the
port's transmitter and queue let it (R174, R176, R177; DESIGN CHOICE, log entry 1). What the request does once taken
is the `take…` definition of its code, in the file of the block that owns it. -/

namespace Sys2Proof.Machine

/-- A request of the given code received whole on its port; a payload that no frame carries is an error of LENGTH
(10.3; DEDUCED, log entry 22). -/
def State.request (s : State) (code : Byte) (r : Sys2Proof.Request) : State :=
  if 1020 < r.payload.length then s.modPort r.port fun x => x.bump .length
  else s.receive r.port ⟨code, r.tag, r.payload⟩

/-- A READ of the given record kind (R178, 12.5). -/
def State.readRequest (s : State) (kind : Byte) (r : Sys2Proof.Request) : State :=
  s.request 0x01 { r with payload := kind :: r.payload }

/-- The payload of the header form of STORE_CUE: the stack, the cue number 0, and the rest (R92). -/
def headerPayload : List Byte → List Byte
  | k :: rest => k :: 0 :: 0 :: rest
  | [] => []

/-- A STORE_CUE payload that carries a cue number other than 0, the header form's (R91). -/
def storesRecord : List Byte → Bool
  | _ :: n1 :: n0 :: _ => decide (be16 n1 n0 ≠ 0)
  | _ => true

/-- UNKNOWN_REQUEST (R177): a request under a code as it came. -/
def execUnknownRequest (code : Byte) (r : Sys2Proof.Request) (s : State) : Host.Outcome State Fault Refusal :=
  (s.request code r).done

/-- READ_STATUS (R11, R32, R178). -/
def execReadStatus (r : Sys2Proof.Request) (s : State) : Host.Outcome State Fault Refusal := (s.readRequest 0 r).done

/-- READ_CHANNEL (R76). -/
def execReadChannel (r : Sys2Proof.Request) (s : State) : Host.Outcome State Fault Refusal := (s.readRequest 1 r).done

/-- READ_WINDOW (R32). -/
def execReadWindow (r : Sys2Proof.Request) (s : State) : Host.Outcome State Fault Refusal := (s.readRequest 2 r).done

/-- READ_CLAIM (R156). -/
def execReadClaim (r : Sys2Proof.Request) (s : State) : Host.Outcome State Fault Refusal := (s.readRequest 3 r).done

/-- READ_STACK (R112). -/
def execReadStack (r : Sys2Proof.Request) (s : State) : Host.Outcome State Fault Refusal := (s.readRequest 4 r).done

/-- READ_CUE (R112). -/
def execReadCue (r : Sys2Proof.Request) (s : State) : Host.Outcome State Fault Refusal := (s.readRequest 5 r).done

/-- READ_LINE (R86). -/
def execReadLine (r : Sys2Proof.Request) (s : State) : Host.Outcome State Fault Refusal := (s.readRequest 6 r).done

/-- READ_SOURCE (R53). -/
def execReadSource (r : Sys2Proof.Request) (s : State) : Host.Outcome State Fault Refusal := (s.readRequest 7 r).done

/-- READ_QUEUE (R170). -/
def execReadQueue (r : Sys2Proof.Request) (s : State) : Host.Outcome State Fault Refusal := (s.readRequest 8 r).done

/-- READ_OVERRIDE (R134). -/
def execReadOverride (r : Sys2Proof.Request) (s : State) : Host.Outcome State Fault Refusal := (s.readRequest 9 r).done

/-- READ_ALERTS (R184). -/
def execReadAlerts (r : Sys2Proof.Request) (s : State) : Host.Outcome State Fault Refusal := (s.request 0x02 r).done

/-- CLEAR_CLIP (R59). -/
def execClearClip (r : Sys2Proof.Request) (s : State) : Host.Outcome State Fault Refusal := (s.request 0x03 r).done

/-- SET_LEVEL (R20). -/
def execSetLevel (r : Sys2Proof.Request) (s : State) : Host.Outcome State Fault Refusal := (s.request 0x04 r).done

/-- SET_LEVELS_SHORT (R21). -/
def execSetLevelsShort (r : Sys2Proof.Request) (s : State) : Host.Outcome State Fault Refusal :=
  (s.request 0x05 r).done

/-- SET_WINDOW (R18). -/
def execSetWindow (r : Sys2Proof.Request) (s : State) : Host.Outcome State Fault Refusal := (s.request 0x06 r).done

/-- SET_FILL (R19). -/
def execSetFill (r : Sys2Proof.Request) (s : State) : Host.Outcome State Fault Refusal := (s.request 0x07 r).done

/-- SET_MASTER (R58). -/
def execSetMaster (r : Sys2Proof.Request) (s : State) : Host.Outcome State Fault Refusal := (s.request 0x08 r).done

/-- TAKE (R25). -/
def execTake (r : Sys2Proof.Request) (s : State) : Host.Outcome State Fault Refusal := (s.request 0x09 r).done

/-- COPY (R30). -/
def execCopy (r : Sys2Proof.Request) (s : State) : Host.Outcome State Fault Refusal := (s.request 0x0A r).done

/-- STORE_CUE (R91). -/
def execStoreCue (r : Sys2Proof.Request) (s : State) : Host.Outcome State Fault Refusal := (s.request 0x0B r).done

/-- STORE_CUE_HEADER (R92): STORE_CUE with cue number 0. -/
def execStoreCueHeader (r : Sys2Proof.Request) (s : State) : Host.Outcome State Fault Refusal :=
  (s.request 0x0B { r with payload := headerPayload r.payload }).done

/-- DELETE_CUE (R93). -/
def execDeleteCue (r : Sys2Proof.Request) (s : State) : Host.Outcome State Fault Refusal := (s.request 0x0C r).done

/-- SET_STACK (R92). -/
def execSetStack (r : Sys2Proof.Request) (s : State) : Host.Outcome State Fault Refusal := (s.request 0x0D r).done

/-- GO (R99). -/
def execGo (r : Sys2Proof.Request) (s : State) : Host.Outcome State Fault Refusal := (s.request 0x0E r).done

/-- ARM (R101). -/
def execArm (r : Sys2Proof.Request) (s : State) : Host.Outcome State Fault Refusal := (s.request 0x0F r).done

/-- HALT (R110). -/
def execHalt (r : Sys2Proof.Request) (s : State) : Host.Outcome State Fault Refusal := (s.request 0x10 r).done

/-- RESET_STACK (R111). -/
def execResetStack (r : Sys2Proof.Request) (s : State) : Host.Outcome State Fault Refusal := (s.request 0x11 r).done

/-- RELEASE_LEVEL (R125). -/
def execReleaseLevel (r : Sys2Proof.Request) (s : State) : Host.Outcome State Fault Refusal := (s.request 0x12 r).done

/-- CLAIM (R143). -/
def execClaim (r : Sys2Proof.Request) (s : State) : Host.Outcome State Fault Refusal := (s.request 0x13 r).done

/-- UNCLAIM (R147). -/
def execUnclaim (r : Sys2Proof.Request) (s : State) : Host.Outcome State Fault Refusal := (s.request 0x14 r).done

/-- ASK (R149). -/
def execAsk (r : Sys2Proof.Request) (s : State) : Host.Outcome State Fault Refusal := (s.request 0x15 r).done

/-- YIELD (R150). -/
def execYieldClaim (r : Sys2Proof.Request) (s : State) : Host.Outcome State Fault Refusal := (s.request 0x16 r).done

/-- DROP_CLAIM (R148). -/
def execDropClaim (r : Sys2Proof.Request) (s : State) : Host.Outcome State Fault Refusal := (s.request 0x17 r).done

/-- SET_ROLE (R137). -/
def execSetRole (r : Sys2Proof.Request) (s : State) : Host.Outcome State Fault Refusal := (s.request 0x18 r).done

/-- SET_PAGE (R138). -/
def execSetPage (r : Sys2Proof.Request) (s : State) : Host.Outcome State Fault Refusal := (s.request 0x19 r).done

/-- SET_SHOT_MAP (R158). -/
def execSetShotMap (r : Sys2Proof.Request) (s : State) : Host.Outcome State Fault Refusal := (s.request 0x1A r).done

/-- SET_GUARD (R160). -/
def execSetGuard (r : Sys2Proof.Request) (s : State) : Host.Outcome State Fault Refusal := (s.request 0x1B r).done

/-- SET_PATCH (R55). -/
def execSetPatch (r : Sys2Proof.Request) (s : State) : Host.Outcome State Fault Refusal := (s.request 0x1C r).done

/-- SET_LINE (R80). -/
def execSetLine (r : Sys2Proof.Request) (s : State) : Host.Outcome State Fault Refusal := (s.request 0x1D r).done

/-- SET_WALL_LINK (R45). -/
def execSetWallLink (r : Sys2Proof.Request) (s : State) : Host.Outcome State Fault Refusal := (s.request 0x1E r).done

/-- SET_SOURCE (R36). -/
def execSetSource (r : Sys2Proof.Request) (s : State) : Host.Outcome State Fault Refusal := (s.request 0x1F r).done

/-- SET_TRANSITION (R42). -/
def execSetTransition (r : Sys2Proof.Request) (s : State) : Host.Outcome State Fault Refusal :=
  (s.request 0x20 r).done

/-- SET_ROUTE (R179). -/
def execSetRoute (r : Sys2Proof.Request) (s : State) : Host.Outcome State Fault Refusal := (s.request 0x21 r).done

/-- SET_TIMING (R2, R172). -/
def execSetTiming (r : Sys2Proof.Request) (s : State) : Host.Outcome State Fault Refusal := (s.request 0x22 r).done

/-- SET_FRAME (R10). -/
def execSetFrame (r : Sys2Proof.Request) (s : State) : Host.Outcome State Fault Refusal := (s.request 0x23 r).done

/-- SET_SAFETY (R129). -/
def execSetSafety (r : Sys2Proof.Request) (s : State) : Host.Outcome State Fault Refusal := (s.request 0x24 r).done

/-- LOCK (R139). -/
def execLock (r : Sys2Proof.Request) (s : State) : Host.Outcome State Fault Refusal := (s.request 0x25 r).done

/-- SAVE_IMAGE (R187). -/
def execSaveImage (r : Sys2Proof.Request) (s : State) : Host.Outcome State Fault Refusal := (s.request 0x26 r).done

/-- SHOW_RESET (R180). -/
def execShowReset (r : Sys2Proof.Request) (s : State) : Host.Outcome State Fault Refusal := (s.request 0x27 r).done

end Sys2Proof.Machine
end

