-- ==== Sys2Proof/WellFormed.lean ====
section
/-! DEFINITION. Which commands are well formed: those that the outside world can send as their rows name them. The
meanings are total all the same. -/

namespace Sys2Proof

/-- The body of the control frame (code, tag, payload) with the port, for the rows that are requests
(spec/12_formats.md 12.2, 12.4, 12.5). -/
def Instr.wire : Instr → Option (Port × List Byte)
  | .hardReset _ => none
  | .referencePulse _ _ => none
  | .localClockExpiry _ => none
  | .absorptionWindowClose => none
  | .mark _ => none
  | .takeSwap _ => none
  | .transitionEnd _ => none
  | .sourceHoldExpiry _ _ => none
  | .sourceFrameComplete _ _ => none
  | .sourceFrameDiscard _ => none
  | .scanEnd => none
  | .levelsReady => none
  | .packetEnd _ => none
  | .autoYield _ _ => none
  | .handoverExpiry _ _ => none
  | .chainedGo _ _ => none
  | .waitExpiry _ _ => none
  | .repeatIntervalExpiry _ _ => none
  | .armTarget _ _ => none
  | .takeoverGrant _ => none
  | .deferApply _ => none
  | .emergencyInputChange _ => none
  | .frameReceived _ _ _ => none
  | .gap _ => none
  | .framing _ => none
  | .lineBreak _ => none
  | .transmitEnd _ => none
  | .alertNotice _ => none
  | .overrunReply _ => none
  | .portRateChange _ => none
  | .saveCompletion => none
  | .saveVerifyFailure => none
  | .saveTimeout => none
  | .unknownRequest code r => some (r.port, code :: r.tag :: r.payload)
  | .readStatus r => some (r.port, 0x01 :: r.tag :: 0 :: r.payload)
  | .readChannel r => some (r.port, 0x01 :: r.tag :: 1 :: r.payload)
  | .readWindow r => some (r.port, 0x01 :: r.tag :: 2 :: r.payload)
  | .readClaim r => some (r.port, 0x01 :: r.tag :: 3 :: r.payload)
  | .readStack r => some (r.port, 0x01 :: r.tag :: 4 :: r.payload)
  | .readCue r => some (r.port, 0x01 :: r.tag :: 5 :: r.payload)
  | .readLine r => some (r.port, 0x01 :: r.tag :: 6 :: r.payload)
  | .readSource r => some (r.port, 0x01 :: r.tag :: 7 :: r.payload)
  | .readQueue r => some (r.port, 0x01 :: r.tag :: 8 :: r.payload)
  | .readOverride r => some (r.port, 0x01 :: r.tag :: 9 :: r.payload)
  | .readAlerts r => some (r.port, 0x02 :: r.tag :: r.payload)
  | .clearClip r => some (r.port, 0x03 :: r.tag :: r.payload)
  | .setLevel r => some (r.port, 0x04 :: r.tag :: r.payload)
  | .setLevelsShort r => some (r.port, 0x05 :: r.tag :: r.payload)
  | .setWindow r => some (r.port, 0x06 :: r.tag :: r.payload)
  | .setFill r => some (r.port, 0x07 :: r.tag :: r.payload)
  | .setMaster r => some (r.port, 0x08 :: r.tag :: r.payload)
  | .take r => some (r.port, 0x09 :: r.tag :: r.payload)
  | .copy r => some (r.port, 0x0A :: r.tag :: r.payload)
  | .storeCue r => some (r.port, 0x0B :: r.tag :: r.payload)
  | .storeCueHeader r => some (r.port, 0x0B :: r.tag :: Machine.headerPayload r.payload)
  | .deleteCue r => some (r.port, 0x0C :: r.tag :: r.payload)
  | .setStack r => some (r.port, 0x0D :: r.tag :: r.payload)
  | .go r => some (r.port, 0x0E :: r.tag :: r.payload)
  | .arm r => some (r.port, 0x0F :: r.tag :: r.payload)
  | .halt r => some (r.port, 0x10 :: r.tag :: r.payload)
  | .resetStack r => some (r.port, 0x11 :: r.tag :: r.payload)
  | .releaseLevel r => some (r.port, 0x12 :: r.tag :: r.payload)
  | .claim r => some (r.port, 0x13 :: r.tag :: r.payload)
  | .unclaim r => some (r.port, 0x14 :: r.tag :: r.payload)
  | .ask r => some (r.port, 0x15 :: r.tag :: r.payload)
  | .yieldClaim r => some (r.port, 0x16 :: r.tag :: r.payload)
  | .dropClaim r => some (r.port, 0x17 :: r.tag :: r.payload)
  | .setRole r => some (r.port, 0x18 :: r.tag :: r.payload)
  | .setPage r => some (r.port, 0x19 :: r.tag :: r.payload)
  | .setShotMap r => some (r.port, 0x1A :: r.tag :: r.payload)
  | .setGuard r => some (r.port, 0x1B :: r.tag :: r.payload)
  | .setPatch r => some (r.port, 0x1C :: r.tag :: r.payload)
  | .setLine r => some (r.port, 0x1D :: r.tag :: r.payload)
  | .setWallLink r => some (r.port, 0x1E :: r.tag :: r.payload)
  | .setSource r => some (r.port, 0x1F :: r.tag :: r.payload)
  | .setTransition r => some (r.port, 0x20 :: r.tag :: r.payload)
  | .setRoute r => some (r.port, 0x21 :: r.tag :: r.payload)
  | .setTiming r => some (r.port, 0x22 :: r.tag :: r.payload)
  | .setFrame r => some (r.port, 0x23 :: r.tag :: r.payload)
  | .setSafety r => some (r.port, 0x24 :: r.tag :: r.payload)
  | .lock r => some (r.port, 0x25 :: r.tag :: r.payload)
  | .saveImage r => some (r.port, 0x26 :: r.tag :: r.payload)
  | .showReset r => some (r.port, 0x27 :: r.tag :: r.payload)
  | .byteCompleted _ _ => none

/-- A frame body that a control frame can carry: 2 to 1022 bytes (12.2). -/
def bodyFits (body : List Byte) : Bool := decide (2 ≤ body.length ∧ body.length ≤ 1022)

/-- The request of a row is one that a control frame can carry. -/
def Instr.fits (i : Instr) : Bool :=
  match i.wire with
  | some x => bodyFits x.2
  | none => true

/-- What a row's operands must be beside fitting a frame: a whole source frame of a size that can be shown (R34), a
frame body of a frame's length, a code that names no request, and a cue number that is not the header form's. -/
def Instr.operandsFit : Instr → Bool
  | .hardReset _ => true
  | .referencePulse _ _ => true
  | .localClockExpiry _ => true
  | .absorptionWindowClose => true
  | .mark _ => true
  | .takeSwap _ => true
  | .transitionEnd _ => true
  | .sourceHoldExpiry _ _ => true
  | .sourceFrameComplete _ frame => Machine.rasterFits frame && Machine.rasterWhole frame
  | .sourceFrameDiscard _ => true
  | .scanEnd => true
  | .levelsReady => true
  | .packetEnd _ => true
  | .autoYield _ _ => true
  | .handoverExpiry _ _ => true
  | .chainedGo _ _ => true
  | .waitExpiry _ _ => true
  | .repeatIntervalExpiry _ _ => true
  | .armTarget _ _ => true
  | .takeoverGrant _ => true
  | .deferApply _ => true
  | .emergencyInputChange _ => true
  | .frameReceived _ body _ => bodyFits body
  | .gap _ => true
  | .framing _ => true
  | .lineBreak _ => true
  | .transmitEnd _ => true
  | .alertNotice _ => true
  | .overrunReply _ => true
  | .portRateChange _ => true
  | .saveCompletion => true
  | .saveVerifyFailure => true
  | .saveTimeout => true
  | .unknownRequest code _ => !Machine.knownCode code
  | .readStatus _ => true
  | .readChannel _ => true
  | .readWindow _ => true
  | .readClaim _ => true
  | .readStack _ => true
  | .readCue _ => true
  | .readLine _ => true
  | .readSource _ => true
  | .readQueue _ => true
  | .readOverride _ => true
  | .readAlerts _ => true
  | .clearClip _ => true
  | .setLevel _ => true
  | .setLevelsShort _ => true
  | .setWindow _ => true
  | .setFill _ => true
  | .setMaster _ => true
  | .take _ => true
  | .copy _ => true
  | .storeCue r => Machine.storesRecord r.payload
  | .storeCueHeader r => !r.payload.isEmpty
  | .deleteCue _ => true
  | .setStack _ => true
  | .go _ => true
  | .arm _ => true
  | .halt _ => true
  | .resetStack _ => true
  | .releaseLevel _ => true
  | .claim _ => true
  | .unclaim _ => true
  | .ask _ => true
  | .yieldClaim _ => true
  | .dropClaim _ => true
  | .setRole _ => true
  | .setPage _ => true
  | .setShotMap _ => true
  | .setGuard _ => true
  | .setPatch _ => true
  | .setLine _ => true
  | .setWallLink _ => true
  | .setSource _ => true
  | .setTransition _ => true
  | .setRoute _ => true
  | .setTiming _ => true
  | .setFrame _ => true
  | .setSafety _ => true
  | .lock _ => true
  | .saveImage _ => true
  | .showReset _ => true
  | .byteCompleted _ _ => true

/-- A well-formed command. -/
def Instr.wf (i : Instr) : Bool := i.fits && i.operandsFit

end Sys2Proof
end

