-- ==== Sys2Proof/Decode.lean ====
section
/-! DEFINITION. Decoding of the opcode table's words. The table gives its rows no bits: the part's commands are events
and requests, and no word spells one. How a request is spelt on a control port's line is the receiver's
(Machine/Ports.lean). -/

namespace Sys2Proof

/-- The command that a word spells by the table's bits: none, since no row has bits. -/
def decodeTableWord (_ _ : Nat) : Option Instr := none

end Sys2Proof
end

