-- ==== Sys2Proof/Machine/Dispatch.lean ====
section
/-! DEFINITION. Every command of spec/opcode_table.json and the meaning that exec gives it. -/

namespace Sys2Proof.Machine

def exec (i : Instr) (s : State) : Host.Outcome State Fault Refusal :=
  match i with
  | .hardReset emergency => Sys2Proof.Machine.execHardReset emergency s
  | .referencePulse elapsed inputs => Sys2Proof.Machine.execReferencePulse elapsed inputs s
  | .localClockExpiry inputs => Sys2Proof.Machine.execLocalClockExpiry inputs s
  | .absorptionWindowClose => Sys2Proof.Machine.execAbsorptionWindowClose s
  | .mark order => Sys2Proof.Machine.execMark order s
  | .takeSwap ev => Sys2Proof.Machine.execTakeSwap ev s
  | .transitionEnd ev => Sys2Proof.Machine.execTransitionEnd ev s
  | .sourceHoldExpiry ev src => Sys2Proof.Machine.execSourceHoldExpiry ev src s
  | .sourceFrameComplete src frame => Sys2Proof.Machine.execSourceFrameComplete src frame s
  | .sourceFrameDiscard src => Sys2Proof.Machine.execSourceFrameDiscard src s
  | .scanEnd => Sys2Proof.Machine.execScanEnd s
  | .levelsReady => Sys2Proof.Machine.execLevelsReady s
  | .packetEnd line => Sys2Proof.Machine.execPacketEnd line s
  | .autoYield ev id => Sys2Proof.Machine.execAutoYield ev id s
  | .handoverExpiry ev id => Sys2Proof.Machine.execHandoverExpiry ev id s
  | .chainedGo order stack => Sys2Proof.Machine.execChainedGo order stack s
  | .waitExpiry order stack => Sys2Proof.Machine.execWaitExpiry order stack s
  | .repeatIntervalExpiry order stack => Sys2Proof.Machine.execRepeatIntervalExpiry order stack s
  | .armTarget order stack => Sys2Proof.Machine.execArmTarget order stack s
  | .takeoverGrant order => Sys2Proof.Machine.execTakeoverGrant order s
  | .deferApply order => Sys2Proof.Machine.execDeferApply order s
  | .emergencyInputChange asserted => Sys2Proof.Machine.execEmergencyInputChange asserted s
  | .frameReceived port body crc => Sys2Proof.Machine.execFrameReceived port body crc s
  | .gap port => Sys2Proof.Machine.execGap port s
  | .framing port => Sys2Proof.Machine.execFraming port s
  | .lineBreak port => Sys2Proof.Machine.execLineBreak port s
  | .transmitEnd port => Sys2Proof.Machine.execTransmitEnd port s
  | .alertNotice port => Sys2Proof.Machine.execAlertNotice port s
  | .overrunReply port => Sys2Proof.Machine.execOverrunReply port s
  | .portRateChange port => Sys2Proof.Machine.execPortRateChange port s
  | .saveCompletion => Sys2Proof.Machine.execSaveCompletion s
  | .saveVerifyFailure => Sys2Proof.Machine.execSaveVerifyFailure s
  | .saveTimeout => Sys2Proof.Machine.execSaveTimeout s
  | .unknownRequest code r => Sys2Proof.Machine.execUnknownRequest code r s
  | .readStatus r => Sys2Proof.Machine.execReadStatus r s
  | .readChannel r => Sys2Proof.Machine.execReadChannel r s
  | .readWindow r => Sys2Proof.Machine.execReadWindow r s
  | .readClaim r => Sys2Proof.Machine.execReadClaim r s
  | .readStack r => Sys2Proof.Machine.execReadStack r s
  | .readCue r => Sys2Proof.Machine.execReadCue r s
  | .readLine r => Sys2Proof.Machine.execReadLine r s
  | .readSource r => Sys2Proof.Machine.execReadSource r s
  | .readQueue r => Sys2Proof.Machine.execReadQueue r s
  | .readOverride r => Sys2Proof.Machine.execReadOverride r s
  | .readAlerts r => Sys2Proof.Machine.execReadAlerts r s
  | .clearClip r => Sys2Proof.Machine.execClearClip r s
  | .setLevel r => Sys2Proof.Machine.execSetLevel r s
  | .setLevelsShort r => Sys2Proof.Machine.execSetLevelsShort r s
  | .setWindow r => Sys2Proof.Machine.execSetWindow r s
  | .setFill r => Sys2Proof.Machine.execSetFill r s
  | .setMaster r => Sys2Proof.Machine.execSetMaster r s
  | .take r => Sys2Proof.Machine.execTake r s
  | .copy r => Sys2Proof.Machine.execCopy r s
  | .storeCue r => Sys2Proof.Machine.execStoreCue r s
  | .storeCueHeader r => Sys2Proof.Machine.execStoreCueHeader r s
  | .deleteCue r => Sys2Proof.Machine.execDeleteCue r s
  | .setStack r => Sys2Proof.Machine.execSetStack r s
  | .go r => Sys2Proof.Machine.execGo r s
  | .arm r => Sys2Proof.Machine.execArm r s
  | .halt r => Sys2Proof.Machine.execHalt r s
  | .resetStack r => Sys2Proof.Machine.execResetStack r s
  | .releaseLevel r => Sys2Proof.Machine.execReleaseLevel r s
  | .claim r => Sys2Proof.Machine.execClaim r s
  | .unclaim r => Sys2Proof.Machine.execUnclaim r s
  | .ask r => Sys2Proof.Machine.execAsk r s
  | .yieldClaim r => Sys2Proof.Machine.execYieldClaim r s
  | .dropClaim r => Sys2Proof.Machine.execDropClaim r s
  | .setRole r => Sys2Proof.Machine.execSetRole r s
  | .setPage r => Sys2Proof.Machine.execSetPage r s
  | .setShotMap r => Sys2Proof.Machine.execSetShotMap r s
  | .setGuard r => Sys2Proof.Machine.execSetGuard r s
  | .setPatch r => Sys2Proof.Machine.execSetPatch r s
  | .setLine r => Sys2Proof.Machine.execSetLine r s
  | .setWallLink r => Sys2Proof.Machine.execSetWallLink r s
  | .setSource r => Sys2Proof.Machine.execSetSource r s
  | .setTransition r => Sys2Proof.Machine.execSetTransition r s
  | .setRoute r => Sys2Proof.Machine.execSetRoute r s
  | .setTiming r => Sys2Proof.Machine.execSetTiming r s
  | .setFrame r => Sys2Proof.Machine.execSetFrame r s
  | .setSafety r => Sys2Proof.Machine.execSetSafety r s
  | .lock r => Sys2Proof.Machine.execLock r s
  | .saveImage r => Sys2Proof.Machine.execSaveImage r s
  | .showReset r => Sys2Proof.Machine.execShowReset r s
  | .byteCompleted port byte => Sys2Proof.Machine.execByteCompleted port byte s

end Sys2Proof.Machine
end

