-- ==== Sys2Proof/Safety.lean ====
section
/-! DEFINITION. What a sound state of the part is: the laws that the manual says its blocks keep, and the words that
statements about requests use (a port that is ready, a reply that is being sent). -/

namespace Sys2Proof.Machine

/-! ### Control ports (R171, R174, R176, R183) -/

/-- No IDLE port owes a notice: a notice owed starts at the first instant at which the transmitter is IDLE (R183). -/
def State.quiet (s : State) : Prop :=
  ∀ q : Port, (s.ports.port[q]).tx = none → (s.ports.port[q]).noticeOwed = false

/-- Port `p` takes its next request as soon as it has been received: its transmitter is IDLE and nothing waits before
it (R176). -/
def State.ready (s : State) (p : Port) : Prop :=
  (s.ports.port[p]).tx = none ∧ (s.ports.port[p]).noticeOwed = false ∧ (s.ports.port[p]).overruns = [] ∧
    (s.ports.port[p]).queue = []

/-- Port `p` has started its reply to the request of a code and tag: result, the counter as it stood, and data (R176,
R192). -/
def State.replied (s : State) (p : Port) (code tag : Byte) (result : ReplyCode) (now : Frame) (data : List Byte) :
    State :=
  s.modPort p fun x => { x with tx := some (.reply code tag result now data) }

/-- An IDLE transmitter has nothing left to send, and no queue holds more than four (R171, R174, R176, R183). -/
def State.settled (s : State) : Prop :=
  ∀ q : Port, ((s.ports.port[q]).tx = none → s.ready q) ∧
    (s.ports.port[q]).queue.length ≤ 4 ∧ (s.ports.port[q]).overruns.length ≤ 4

/-! ### Reference Unit (R1, R7, R8) -/

/-- The lock state and its counts: each count is used in its own state only, a frame that a pulse led or backed has
flywheel count 0, and a third flywheel frame whose window has closed leaves FREE. -/
def RefUnit.legal (r : RefUnit) : Prop :=
  (r.lock = .locked → r.lead = 0 ∧ r.flywheel ≤ 3 ∧ (r.origin = .pulse → r.flywheel = 0) ∧
    (r.windowOpen = false → r.flywheel ≤ 2)) ∧
  (r.lock = .free → r.flywheel = 0 ∧ r.lead ≤ 1)

/-! ### Level Engine and Line Drivers (R55, R80) -/

/-- No two patched channels occupy one slot, and no line's slot count lies below a slot patched to it. -/
def State.patchLegal (s : State) : Prop :=
  (∀ m n : ChannelNo, m ≠ n → (s.level.patch[m]).overlaps s.level.patch[n] = false) ∧
  (∀ (n : ChannelNo) (l : LineNo), (s.level.patch[n]).line = some l → (s.level.patch[n]).lastSlot ≤ (s.lines[l]).slots)

/-! ### Cue Unit (R88 to R95) -/

/-- The cue store: its order, its pools, and the ranges of its numbers and action counts. -/
def CueUnit.storeLegal (c : CueUnit) : Prop :=
  c.store.Pairwise (fun a b => a.before b = true) ∧ c.store.length ≤ 1024 ∧ c.usedSlots ≤ 4096 ∧
    ∀ q ∈ c.store, 1 ≤ q.number ∧ q.number ≤ 9999 ∧ 1 ≤ q.body.actions.length ∧ q.body.actions.length ≤ 16

/-- Every stack stands on a cue of its list or at END, and its loop context names a cue of its list. -/
def CueUnit.stacksLegal (c : CueUnit) : Prop :=
  ∀ k : StackNo,
    ((c.recs[k]).state = .ended ↔ (c.recs[k]).position = none) ∧
    (∀ n, (c.recs[k]).position = some n → (c.find k n).isSome = true) ∧
    (∀ x, (c.recs[k]).loop = some x → (c.find k x.startCue).isSome = true)

/-! ### Takeover Unit (R114, R115, R120, R128) -/

/-- The preemption stack: levels 5-8 rising strictly from bottom to top, each level held by a stack of that level, and
SAFETY in it exactly while safety is in force. -/
def State.preemptionLegal (s : State) : Prop :=
  s.takeover.stack.Pairwise (fun a b => a.rank < b.rank) ∧
  (∀ l k, PreEntry.level l k ∈ s.takeover.stack → isTakeover l = true ∧ (s.cue.recs[k]).level = l) ∧
  (PreEntry.safety ∈ s.takeover.stack ↔ s.takeover.inForce = true)

/-- Two override entries of different level or item. -/
def Override.apart (a b : Override) : Prop := ¬ (a.level = b.level ∧ a.item.key = b.item.key)

/-- The override table: at most 256 entries of levels 5-7, never two of one level and item. -/
def TakeoverUnit.overridesLegal (t : TakeoverUnit) : Prop :=
  t.overrides.length ≤ 256 ∧ t.overrides.Pairwise Override.apart ∧ ∀ e ∈ t.overrides, isTakeover e.level = true

/-- Every override entry has the level of an entry on the preemption stack; and what keeps it so: a REPEATING takeover
stack holds its level, and no takeover stack is ARMED (R101, R120). -/
def State.overridesHeld (s : State) : Prop :=
  (∀ e ∈ s.takeover.overrides, ∃ k, PreEntry.level e.level k ∈ s.takeover.stack) ∧
  ∀ k : StackNo, isTakeover (s.cue.recs[k]).level = true →
    (∀ n i, (s.cue.recs[k]).state = .repeating n i → PreEntry.level (s.cue.recs[k]).level k ∈ s.takeover.stack) ∧
    ∀ f g, (s.cue.recs[k]).state ≠ .armed f g

/-! ### Access Unit (R137, R143, R149) -/

/-- At least one control port has the ENGINEERING role. -/
def AccessUnit.hasEngineer (a : AccessUnit) : Prop := ∃ p : Port, a.roles[p] = .engineering

/-- Claims of two owners share no item, a CONTESTED claim shares none with any other claim, and no port waits for its
own claim. -/
def AccessUnit.claimsLegal (a : AccessUnit) : Prop :=
  (∀ (i j : ClaimId) (c d : Claim), i ≠ j → a.claims[i] = some c → a.claims[j] = some d →
    (c.owner ≠ d.owner ∨ c.contest.isSome = true) → c.range.shares d.range = false) ∧
  (∀ (i : ClaimId) (c : Claim) (w : Contest), a.claims[i] = some c → c.contest = some w → w.waiting ≠ c.owner)

/-! ### Tally Unit (R164, R165) -/

/-- The deferred queue: at most 32 entries, never two of one target and bank. -/
def TallyUnit.queueLegal (t : TallyUnit) : Prop :=
  t.queue.length ≤ 32 ∧ t.queue.Pairwise fun a b => a.write.sameKey b.write = false

/-! ### Writes under the shot guards (R162 to R166) -/

/-- The deferred queue after those of a write's items that stand under DEFER have joined it, in their order (R165). -/
def State.queueWith (s : State) (writer : Writer) (ws : List ItemWrite) : List Deferred :=
  (ws.filter fun w => decide (s.guardOf w = some .defer)).foldl (fun q w => joinQueue q ⟨w, writer⟩) s.tally.queue

/-- What a write of items leaves that the guards let through: the items under DEFER are queued, every other item is
stored and its entry leaves the queue, and GUARD_ALERT is raised once where an item stored stands under ALERT, for the
lowest-numbered such item (R162, R163, R166). -/
def State.written (s : State) (writer : Writer) (ws : List ItemWrite) : State :=
  let stored := ws.filter fun w => decide (s.guardOf w ≠ some .defer)
  let u := stored.foldl State.writeItem { s with tally := { s.tally with
    queue := (s.queueWith writer ws).filter fun d => decide (∀ w ∈ stored, d.write.sameKey w = false) } }
  match lowestItem ((stored.filter fun w => decide (s.guardOf w = some .alert)).map ItemWrite.item) with
  | some (.master g) => u.raiseRouted (.guardAlert (.master g) .alert writer .master s.ref.counter)
  | some i => u.raiseRouted (.guardAlert i .alert writer .bank s.ref.counter)
  | none => u

/-- How the guards decide a write of items whole (R162): refused where an item stands under REFUSE, turned away where
the queue cannot hold the items under DEFER, and otherwise passed, with whether an item was queued. -/
def State.guardsDecide (s : State) (writer : Writer) (ws : List ItemWrite) (guarded queueFull : Prop)
    (passed : State → Bool → Prop) : Prop :=
  ((∃ w ∈ ws, s.guardOf w = some .refuse) → guarded) ∧
  ((∀ w ∈ ws, s.guardOf w ≠ some .refuse) →
    ((∃ w ∈ ws, s.guardOf w = some .defer) →
      (32 < (s.queueWith writer ws).length → queueFull) ∧
      ((s.queueWith writer ws).length ≤ 32 → passed (s.written writer ws) true)) ∧
    ((∀ w ∈ ws, s.guardOf w ≠ some .defer) → passed (s.written writer ws) false))

/-! ### FRAME and MARK -/

/-- The command that is a frame event of a cause and nothing more (R3, R4). -/
def frameCommand (ev : FrameEvent) : Instr :=
  match ev.cause with
  | .clock => .localClockExpiry ev.inputs
  | .pulse e => .referencePulse e ev.inputs

/-- Stack `j` does nothing at a MARK: IDLE or at END, with no chained and no pending GO (R97). -/
def State.restsAt (s : State) (j : StackNo) : Prop :=
  ((s.cue.recs[j]).state = .idle ∨ (s.cue.recs[j]).state = .ended) ∧ (s.cue.recs[j]).chainedGo = false ∧
    (s.cue.recs[j]).pendingGo = false

/-- Stack `k` may run: at a show level with the mask at 0, or at a takeover level and on top (R96). -/
def State.mayRun (s : State) (k : StackNo) : Prop :=
  (s.cue.recs[k]).level < 5 ∧ s.takeover.mask = 0 ∨
    isTakeover (s.cue.recs[k]).level = true ∧ s.takeover.onTop k = true

/-- What a firing of cue `q` by stack `k` leaves, with `left` repeats still to come (R102, R106 to R109): its actions
in list order, the first at place 1; and then REPEATING with the cue's interval, or after the last firing the loop
marker's effect, the arrival at the next position, and the release of a takeover level where the cue asks for it. -/
def State.fired (s : State) (k : StackNo) (q : Cue) (left : Nat) : State :=
  let acted := (q.body.actions.zipIdx 1).foldl (fun u x => u.act k q.number x.2 x.1) s
  if left ≠ 0 then acted.modStack k fun r => { r with state := .repeating left q.body.interval }
  else
    let m := loopStep q (s.cue.recs[k]).loop
    let there := (m.2.1.or (s.cue.next k q.number)).bind fun n => s.cue.find k n
    let alerted := match m.2.2 with
      | some start => acted.raiseStack k (.nestedLoop k q.number start s.ref.counter)
      | none => acted
    let advanced := alerted.modStack k fun r => { r with
      loop := m.1
      position := there.map Cue.number
      state := match there with
        | some c => (match c.body.trigger with
          | .auto => .waiting c.body.wait
          | .go => .idle)
        | none => .ended }
    if isTakeover (s.cue.recs[k]).level && q.body.release then
      advanced.release (s.cue.recs[k]).level k q.body.releaseFade
    else advanced

/-- What a MARK leaves at which the one stack that acts does so by `act`, together with the application step: the two
come in either order, and the MARK is ISSUED (R97; DESIGN CHOICE, log entry 7). -/
def State.marked (s : State) (act : State → State) (t : State) : Prop :=
  t = ((act s).applyDeferred.modRef fun r => { r with markDue := none }).startNotices ∨
  t = ((act s.applyDeferred).modRef fun r => { r with markDue := none }).startNotices

/-! ### Images (R185, R186) -/

/-- A window record within the ranges of R12. -/
def WindowRec.inRange (r : WindowRec) : Prop :=
  r.x0 ≤ r.x1 ∧ r.x1 ≤ 7679 ∧ r.y0 ≤ r.y1 ∧ r.y1 ≤ 2159 ∧ -16384 ≤ r.dx ∧ r.dx ≤ 16383 ∧ -16384 ≤ r.dy ∧
    r.dy ≤ 16383 ∧ r.brightness ≤ 256 ∧ r.flat.r ≤ 255 ∧ r.flat.g ≤ 255 ∧ r.flat.b ≤ 255

/-- A channel record within the ranges of R13. -/
def ChannelRec.inRange (c : ChannelRec) : Prop := c.level ≤ 65535 ∧ c.fade ≤ 65535

/-- A bank whose records lie in their ranges. -/
def Bank.inRange (b : Bank) : Prop :=
  (∀ w : WindowNo, (b.windows[w]).inRange) ∧ (b.fill.r ≤ 255 ∧ b.fill.g ≤ 255 ∧ b.fill.b ≤ 255) ∧
    ∀ n : ChannelNo, (b.channels[n]).inRange

/-- A patch record within the ranges of R54: a 16-bit channel has a second slot. -/
def PatchRec.inRange (p : PatchRec) : Prop :=
  1 ≤ p.slot ∧ p.slot ≤ 512 ∧ (p.width = 1 ∨ p.width = 2 ∧ p.slot ≤ 511) ∧ p.limit ≤ 65535 ∧ -512 ≤ p.gain ∧
    p.gain ≤ 511 ∧ p.reference ≤ 4080 ∧ ∀ v, p.safety = some v → v ≤ 65535

/-- The values of a field group within the ranges of R12. -/
def FieldValue.inRange : FieldValue → Prop
  | .rect x0 y0 x1 y1 => x0 ≤ x1 ∧ x1 ≤ 7679 ∧ y0 ≤ y1 ∧ y1 ≤ 2159
  | .offset dx dy => -16384 ≤ dx ∧ dx ≤ 16383 ∧ -16384 ≤ dy ∧ dy ≤ 16383
  | .brightness b => b ≤ 256
  | .flat c => c.r ≤ 255 ∧ c.g ≤ 255 ∧ c.b ≤ 255
  | .enable _ => True
  | .source _ => True
  | .plane _ => True
  | .orient _ _ => True
  | .layer _ => True

/-- An action within the ranges of R90. -/
def Action.inRange : Action → Prop
  | .level _ first last v d => first ≤ last ∧ v ≤ 65535 ∧ d ≤ 65535
  | .window _ _ v => v.inRange
  | .master _ v => v ≤ 256
  | .take _ => True
  | .copy => True
  | .goStack _ => True

/-- A cue record within the ranges of R89 and R91. -/
def Cue.inRange (q : Cue) : Prop :=
  1 ≤ q.number ∧ q.number ≤ 9999 ∧ q.body.wait ≤ 65535 ∧ q.body.repeats ≤ 255 ∧ q.body.interval ≤ 255 ∧
    q.body.loopCount ≤ 255 ∧ q.body.releaseFade ≤ 65535 ∧ 1 ≤ q.body.actions.length ∧ q.body.actions.length ≤ 16 ∧
    ∀ a ∈ q.body.actions, a.inRange

/-- A wall link record within the ranges of R45. -/
def WallLink.inRange (k : WallLink) : Prop :=
  k.x ≤ 7679 ∧ k.y ≤ 2159 ∧ 1 ≤ k.width ∧ k.width ≤ 7680 - k.x ∧ 1 ≤ k.height ∧ k.height ≤ 2160 - k.y ∧
    k.brightness ≤ 256

/-- An image body every field of which lies within its range. -/
def ImageBody.inRange (b : ImageBody) : Prop :=
  (∀ n : ChannelNo, (b.patch[n]).inRange) ∧
  (∀ l : LineNo, 24 ≤ (b.lines[l]).2.1 ∧ (b.lines[l]).2.1 ≤ 512 ∧ 88 ≤ (b.lines[l]).2.2 ∧ (b.lines[l]).2.2 ≤ 1000) ∧
  (∀ k : LinkNo, (b.links[k]).inRange) ∧ (∀ p : SourceNo, b.holdLimits[p] ≤ 255) ∧
  (∀ n : SetNo, 1 ≤ (b.sets[n]).duration ∧ (b.sets[n]).duration ≤ 255) ∧
  (b.timing.lateGrace ≤ 65535 ∧ 1 ≤ b.timing.timeout ∧ b.timing.timeout ≤ 65535 ∧ b.timing.safetyFade ≤ 65535 ∧
    b.timing.safetyWall ≤ 256) ∧
  b.bankA.inRange ∧ b.bankB.inRange ∧ (∀ q ∈ b.store, q.inRange) ∧ ∀ k : StackNo, 1 ≤ b.levels[k] ∧ b.levels[k] ≤ 7

end Sys2Proof.Machine
end

