-- ==== Sys2Proof/Certificates/Slice0/Obligations.lean ====
section
/-! DEFINITION. The statements for the provers, one `Prop` each. In all of them a request's tag is free, `s.quiet` says
that no IDLE port owes a notice, and `s.ready p` that port `p` takes its next request at once: both follow from
`State.settled`, which every step keeps (PortsStaySettled). -/

open Sys2Proof Sys2Proof.Machine

/-! ### The queue of commands -/

/-- The command at the front of the queue takes place with the rest of the queue kept; the model's own convention for
a block (log entry 1). -/
def Obligations.StepRunsFrontCommand : Prop :=
  ∀ (c : Instr) (rest : List Instr) (s : State),
    s.pending = c :: rest → step s = exec c { s with pending := rest }

/-- No command faults and none is refused, in any state and with any operands, and none touches the queue of commands;
the queue is the model's own convention for a block (log entry 1). -/
def Obligations.EveryCommandCompletes : Prop :=
  ∀ (c : Instr) (s : State), ∃ t : State, exec c s = .next t ∧ t.pending = s.pending

/-! ### Control ports: receiving (R173 to R175) -/

/-- The receiver's table, row by row: what a byte makes of HUNT, LENGTH, BODY and CHECK, and what it counts (R173). -/
def Obligations.ReceiverTakesBytes : Prop :=
  ∀ (s : State) (p : Port) (b : Byte), s.quiet →
    ((s.ports.port[p]).receiver = .hunt →
      (b = 0xC3 → exec (.byteCompleted p b) s = .next (s.setReceiver p (.length none))) ∧
      (b ≠ 0xC3 → exec (.byteCompleted p b) s = .next (s.modPort p fun x => x.bump .stray))) ∧
    ((s.ports.port[p]).receiver = .length none →
      exec (.byteCompleted p b) s = .next (s.setReceiver p (.length (some b)))) ∧
    (∀ h : Byte, (s.ports.port[p]).receiver = .length (some h) →
      (2 ≤ be16 h b ∧ be16 h b ≤ 1022 →
        exec (.byteCompleted p b) s = .next (s.setReceiver p (.body (be16 h b) []))) ∧
      (be16 h b < 2 ∨ 1022 < be16 h b →
        exec (.byteCompleted p b) s = .next (s.modPort p fun x => { x.bump .length with receiver := .hunt }))) ∧
    (∀ (n : Nat) (got : List Byte), (s.ports.port[p]).receiver = .body n got →
      (got.length + 1 < n → exec (.byteCompleted p b) s = .next (s.setReceiver p (.body n (got ++ [b])))) ∧
      (got.length + 1 = n → exec (.byteCompleted p b) s = .next (s.setReceiver p (.check (got ++ [b]) none)))) ∧
    (∀ whole : List Byte, (s.ports.port[p]).receiver = .check whole none →
      exec (.byteCompleted p b) s = .next (s.setReceiver p (.check whole (some b)))) ∧
    (∀ (whole : List Byte) (c : Byte), (s.ports.port[p]).receiver = .check whole (some c) →
      exec (.byteCompleted p b) s = exec (.frameReceived p whole (BitVec.ofNat 16 (be16 c b))) s)

/-- A control frame sent byte by byte to a receiver in HUNT is the frame received whole: its start byte, length, body
and CRC-16 all count, and nothing else happens on the way (R173, R174). That FRAME_RECEIVED stands for the arrival of
the whole frame is the model's choice (log entry 23). -/
def Obligations.BytesMakeTheFrame : Prop :=
  ∀ (s : State) (p : Port) (body : List Byte) (rest : List Instr),
    s.quiet → (s.ports.port[p]).receiver = .hunt → 2 ≤ body.length → body.length ≤ 1022 →
    s.pending = (frameOf body).map (Instr.byteCompleted p) ++ rest →
    Sys2Proof.core.run (frameOf body).length s =
      exec (.frameReceived p body (crc16 (u16 body.length ++ body))) { s with pending := rest }

/-- A good frame on a ready port is taken, and on a SENDING port waits in the queue or, behind four, is dropped and
owed an OVERRUN reply; a frame whose CRC differs is discarded and counted (R174). That FRAME_RECEIVED stands for the
arrival of the whole frame is the model's choice (log entry 23). -/
def Obligations.FrameReceivedResults : Prop :=
  ∀ (s : State) (p : Port) (code tag : Byte) (payload : List Byte) (crc : BitVec 16),
    s.quiet → payload.length ≤ 1020 →
    (crc16 (u16 (code :: tag :: payload).length ++ (code :: tag :: payload)) ≠ crc →
      exec (.frameReceived p (code :: tag :: payload) crc) s =
        .next (s.modPort p fun x => { x.bump .crc with receiver := .hunt })) ∧
    (crc16 (u16 (code :: tag :: payload).length ++ (code :: tag :: payload)) = crc →
      (s.ready p → exec (.frameReceived p (code :: tag :: payload) crc) s =
        .next ((s.setReceiver p .hunt).takeRequest p ⟨code, tag, payload⟩).startNotices) ∧
      (∀ f : TxFrame, (s.ports.port[p]).tx = some f →
        ((s.ports.port[p]).queue.length < 4 → exec (.frameReceived p (code :: tag :: payload) crc) s =
          .next (s.modPort p fun x =>
            { x with receiver := .hunt, queue := x.queue ++ [⟨code, tag, payload⟩] })) ∧
        (4 ≤ (s.ports.port[p]).queue.length → (s.ports.port[p]).overruns.length < 4 →
          exec (.frameReceived p (code :: tag :: payload) crc) s =
            .next (s.modPort p fun x =>
              { x.bump .overrun with
                receiver := .hunt
                overruns := x.overruns ++ [⟨code, tag, s.ref.counter⟩] })) ∧
        (4 ≤ (s.ports.port[p]).queue.length → 4 ≤ (s.ports.port[p]).overruns.length →
          exec (.frameReceived p (code :: tag :: payload) crc) s =
            .next (s.modPort p fun x => { x.bump .overrun with receiver := .hunt }))))

/-- Gap, framing error and break (R175): what each clears and counts, and that the port keeps all else. -/
def Obligations.LineErrors : Prop :=
  ∀ (s : State) (p : Port),
    ((s.ports.port[p]).receiver ≠ .hunt →
      exec (.gap p) s = .next (s.modPort p fun x => { x.bump .gap with receiver := .hunt })) ∧
    ((s.ports.port[p]).receiver = .hunt → exec (.gap p) s = .next s) ∧
    exec (.framing p) s = .next (s.modPort p fun x => { x.bump .framing with receiver := .hunt }) ∧
    exec (.lineBreak p) s =
      .next (s.modPort p fun x => { x.bump .breaks with receiver := .hunt, queue := [], overruns := [] })

/-! ### Control ports: requests as a whole (R136, R139, R140, R174, R176, R177) -/

/-- Every well-formed request row is the frame of its request received whole: the row and its control frame do the
same, on every port and in every state. That a request row is its request received whole on its port, taken at once or
queued by R174, and that FRAME_RECEIVED stands for the whole frame, are the model's choices (log entries 1 and 23). -/
def Obligations.RequestRowIsItsFrame : Prop :=
  ∀ (i : Instr) (p : Port) (body : List Byte) (s : State), i.wf = true → i.wire = some (p, body) →
    exec (.frameReceived p body (crc16 (u16 body.length ++ body))) s = exec i (s.setReceiver p .hunt)

/-- A request of an OPERATOR port that only an ENGINEERING port may make is answered ROLE, one that a set lock governs
LOCKED, one under a code that names no request FORMAT, and none of them changes anything but the reply (R136, R139,
R177). -/
def Obligations.RequestsAreRefused : Prop :=
  (∀ (i : Instr) (p : Port) (code tag : Byte) (payload : List Byte) (s : State),
    s.quiet → s.ready p → i.wf = true → i.wire = some (p, code :: tag :: payload) →
    (engineering code = true → s.access.roles[p] = .operator →
      exec i s = .next (s.replied p code tag .role s.ref.counter [])) ∧
    (s.access.roles[p] = .engineering →
      (code = 0x1C ∧ s.access.patchLock = true ∨ (code = 0x1A ∨ code = 0x1B) ∧ s.access.shotLock = true) →
      exec i s = .next (s.replied p code tag .locked s.ref.counter []))) ∧
  (∀ (s : State) (r : Sys2Proof.Request) (code : Byte), s.quiet → s.ready r.port → r.payload.length ≤ 1020 →
    (code = 0x00 ∨ 0x27 < code.toNat) →
    exec (.unknownRequest code r) s = .next (s.replied r.port code r.tag .format s.ref.counter []))

/-- SET_WINDOW, SET_LEVEL, SET_MASTER, GO and HALT that name an item under another port's claim, where that is the
only claim, are answered DENIED with the id of the claim, and change nothing (R144, R177): the four shapes of a named
item. That DENIED comes before the owning block's FORMAT and RANGE, so that the fields which name no item are free
here, is the model's reading (log entry 10). -/
def Obligations.ClaimsDenyOtherPorts : Prop :=
  ∀ (s : State) (p q : Port) (tag : Byte) (id : ClaimId) (c : Claim), s.quiet → s.ready p → q ≠ p →
    s.access.claims[id] = some c → c.owner = q → (∀ j : ClaimId, j ≠ id → s.access.claims[j] = none) →
    (∀ (bank m1 m0 : Byte) (w : WindowNo) (rest : List Byte) (set : WindowSet),
      c.range = .windows set → set.getLsbD w.val = true → rest.length ≤ 1000 →
      exec (.setWindow ⟨p, tag, bank :: BitVec.ofNat 8 w.val :: m1 :: m0 :: rest⟩) s =
        .next (s.replied p 0x06 tag .denied s.ref.counter [BitVec.ofNat 8 id.val])) ∧
    (∀ (bank f1 f0 l1 l0 : Byte) (rest : List Byte) (first last n : ChannelNo),
      c.range = .channels first last → first ≤ n → n ≤ last → be16 f1 f0 ≤ n.val → n.val ≤ be16 l1 l0 →
      rest.length ≤ 1000 →
      exec (.setLevel ⟨p, tag, bank :: f1 :: f0 :: l1 :: l0 :: rest⟩) s =
        .next (s.replied p 0x04 tag .denied s.ref.counter [BitVec.ofNat 8 id.val])) ∧
    (∀ (g : GroupNo) (rest : List Byte), c.range = .group g → rest.length ≤ 1000 →
      exec (.setMaster ⟨p, tag, BitVec.ofNat 8 g.val :: rest⟩) s =
        .next (s.replied p 0x08 tag .denied s.ref.counter [BitVec.ofNat 8 id.val])) ∧
    (∀ (k : StackNo) (rest : List Byte), c.range = .stack k → rest.length ≤ 1000 →
      exec (.go ⟨p, tag, BitVec.ofNat 8 k.val :: rest⟩) s =
        .next (s.replied p 0x0E tag .denied s.ref.counter [BitVec.ofNat 8 id.val]) ∧
      exec (.halt ⟨p, tag, BitVec.ofNat 8 k.val :: rest⟩) s =
        .next (s.replied p 0x10 tag .denied s.ref.counter [BitVec.ofNat 8 id.val]))

/-! ### Control ports: sending (R172, R176, R183) -/

/-- At the end of a frame the arbiter starts an owed notice, else the oldest owed OVERRUN reply, else takes the oldest
request, else the port is IDLE (R176, R183); and a pending rate becomes the line rate when the reply it waits for has
been sent and the port is IDLE, its receiver in HUNT again (R172). That ALERT_NOTICE and OVERRUN_REPLY are the end of
a sent frame, and PORT_RATE_CHANGE the end at which the rate changes, is the model's choice (log entry 24). -/
def Obligations.TransmitterArbitrates : Prop :=
  (∀ (s : State) (p : Port) (f : TxFrame), s.quiet → (s.ports.port[p]).tx = some f →
    (∀ q : Port, (s.ports.port[q]).pendingRate = none) →
    ((s.ports.port[p]).noticeOwed = true →
      exec (.transmitEnd p) s = .next (s.modPort p fun x =>
        { x with tx := some (.notice s.ref.counter x.alertKinds), noticeOwed := false }) ∧
      exec (.alertNotice p) s = exec (.transmitEnd p) s) ∧
    (∀ (o : Overrun) (os : List Overrun), (s.ports.port[p]).noticeOwed = false →
      (s.ports.port[p]).overruns = o :: os →
      exec (.transmitEnd p) s = .next (s.modPort p fun x =>
        { x with tx := some (.overrun o.code o.tag o.frame), overruns := os }) ∧
      exec (.overrunReply p) s = exec (.transmitEnd p) s) ∧
    (∀ (q : Queued) (qs : List Queued), (s.ports.port[p]).noticeOwed = false → (s.ports.port[p]).overruns = [] →
      (s.ports.port[p]).queue = q :: qs →
      exec (.transmitEnd p) s =
        .next ((s.modPort p fun x => { x with tx := none, queue := qs }).takeRequest p q).startNotices) ∧
    ((s.ports.port[p]).noticeOwed = false → (s.ports.port[p]).overruns = [] → (s.ports.port[p]).queue = [] →
      exec (.transmitEnd p) s = .next (s.modPort p fun x => { x with tx := none }))) ∧
  (∀ (s : State) (p g : Port) (f : TxFrame) (rate : LineRate), s.quiet →
    (s.ports.port[p]).pendingRate = some ⟨rate, some g⟩ → (∀ q : Port, q ≠ p → (s.ports.port[q]).pendingRate = none) →
    (s.ports.port[g]).tx = some f → (p = g ∨ (s.ports.port[p]).tx = none) →
    (s.ports.port[g]).noticeOwed = false → (s.ports.port[g]).overruns = [] → (s.ports.port[g]).queue = [] →
    exec (.portRateChange p) s =
      .next ((s.modPort g fun x => { x with tx := none }).modPort p fun x =>
        { (if x.receiver = .hunt then x else x.bump .framing) with
          rate := rate, pendingRate := none, receiver := .hunt }))

/-- An IDLE transmitter has nothing left to send, at most four requests wait and at most four OVERRUN replies are owed:
every step keeps this (R171, R174, R176, R183). -/
def Obligations.PortsStaySettled : Prop :=
  ∀ s t : State, s.settled → step s = .next t → t.settled

/-- An alert raised to a set of ports (R182, R183): in each of them its kind has this detail and one occurrence more,
holding at 255, the other kinds stay, a notice is owed where the set was empty and the push flag set; the other ports
and the rest of the part do not change. -/
def Obligations.AlertsEnterTheSets : Prop :=
  ∀ (s : State) (d : PortSet) (a : Alert),
    s.raiseTo d a = { s with ports := { s.ports with port := (s.raiseTo d a).ports.port } } ∧
    (∀ q : Port, d.getLsbD q.val = false → (s.raiseTo d a).ports.port[q] = s.ports.port[q]) ∧
    (∀ q : Port, d.getLsbD q.val = true → ∀ k : Fin 22,
      ((s.raiseTo d a).ports.port[q]).alerts[k] =
        if k = a.kind then
          (match (s.ports.port[q]).alerts[k] with
            | some e => some ⟨a, satSucc 255 e.count⟩
            | none => some ⟨a, 1⟩)
        else (s.ports.port[q]).alerts[k]) ∧
    (∀ q : Port, d.getLsbD q.val = true →
      ((s.raiseTo d a).ports.port[q]).alertLine = true ∧
      ((s.raiseTo d a).ports.port[q]).noticeOwed =
        ((s.ports.port[q]).noticeOwed || ((s.ports.port[q]).pushFlag && !(s.ports.port[q]).alertLine)))

/-! ### Reference Unit (R1 to R10) -/

/-- A pulse at half a period or later, and the local clock at its expiry, start a frame: the counter rises by one, the
frame takes its origin and the configured rate, its window is OPEN, its MARK is owed half a period later and the clock
expires one period later (R2 to R5). -/
def Obligations.FrameEventsStartFrames : Prop :=
  ∀ (s : State) (inputs : FrameIn),
    (∃ t : State, exec (.localClockExpiry inputs) s = .next t ∧
      t.ref.counter = s.ref.counter + 1 ∧ t.ref.origin = .clock ∧ t.ref.windowOpen = true ∧ t.ref.rate = s.ref.rate ∧
      t.ref.frameRate = s.ref.rate ∧ t.ref.lastEvent = s.ref.expiry ∧
      t.ref.markDue = some (s.ref.expiry + s.ref.rate.half) ∧ t.ref.expiry = s.ref.expiry + s.ref.rate.period) ∧
    (∀ e : Nat, s.ref.frameRate.half ≤ e →
      ∃ t : State, exec (.referencePulse e inputs) s = .next t ∧
        t.ref.counter = s.ref.counter + 1 ∧ t.ref.origin = .pulse ∧ t.ref.windowOpen = true ∧
        t.ref.rate = s.ref.rate ∧ t.ref.frameRate = s.ref.rate ∧ t.ref.lastEvent = s.ref.lastEvent + e ∧
        t.ref.markDue = some (s.ref.lastEvent + e + s.ref.rate.half) ∧
        t.ref.expiry = s.ref.lastEvent + e + s.ref.rate.period)

/-- The lock accounting at a frame event (R5, R7, R8): a flywheel frame counts, a pulse clears the flywheel count in
LOCKED, raises the lead count in FREE, and at two returns the lock. Where the window of the frame before is still OPEN
the frame event closes it first: three flywheel frames leave LOCKED with REF_LOST, and a CLOCK frame in FREE sets the
lead count back to 0. -/
def Obligations.LockAccountingAtFrames : Prop :=
  ∀ (s t : State) (inputs : FrameIn) (e : Nat),
    (s.ref.windowOpen = false →
      (exec (.localClockExpiry inputs) s = .next t →
        t.ref.lock = s.ref.lock ∧ t.ref.lead = s.ref.lead ∧
        (s.ref.lock = .locked → t.ref.flywheel = s.ref.flywheel + 1) ∧
        (s.ref.lock = .free → t.ref.flywheel = s.ref.flywheel)) ∧
      (s.ref.frameRate.half ≤ e → exec (.referencePulse e inputs) s = .next t →
        (s.ref.lock = .locked → t.ref.lock = .locked ∧ t.ref.flywheel = 0 ∧ t.ref.lead = s.ref.lead) ∧
        (s.ref.lock = .free → s.ref.lead = 0 →
          t.ref.lock = .free ∧ t.ref.lead = 1 ∧ t.ref.flywheel = s.ref.flywheel) ∧
        (s.ref.lock = .free → 1 ≤ s.ref.lead →
          t.ref.lock = .locked ∧ t.ref.lead = 0 ∧ t.ref.flywheel = 0 ∧
          ∀ q : Port, (s.ports.routing[1]).getLsbD q.val = true → ((t.ports.port[q]).alerts[1]).isSome = true))) ∧
    (s.ref.windowOpen = true →
      (exec (.localClockExpiry inputs) s = .next t →
        (s.ref.lock = .locked → s.ref.origin = .pulse ∨ s.ref.flywheel ≤ 2 →
          t.ref.lock = .locked ∧ t.ref.flywheel = s.ref.flywheel + 1 ∧ t.ref.lead = s.ref.lead) ∧
        (s.ref.lock = .locked → s.ref.origin = .clock → s.ref.flywheel = 3 →
          t.ref.lock = .free ∧ t.ref.flywheel = 0 ∧ t.ref.lead = 0) ∧
        (s.ref.lock = .free → s.ref.origin = .clock →
          t.ref.lock = .free ∧ t.ref.lead = 0 ∧ t.ref.flywheel = s.ref.flywheel) ∧
        (s.ref.lock = .free → s.ref.origin = .pulse →
          t.ref.lock = .free ∧ t.ref.lead = s.ref.lead ∧ t.ref.flywheel = s.ref.flywheel)) ∧
      (s.ref.frameRate.half ≤ e → exec (.referencePulse e inputs) s = .next t →
        (s.ref.lock = .locked → s.ref.origin = .pulse ∨ s.ref.flywheel ≤ 2 →
          t.ref.lock = .locked ∧ t.ref.flywheel = 0 ∧ t.ref.lead = s.ref.lead) ∧
        (s.ref.lock = .locked → s.ref.origin = .clock → s.ref.flywheel = 3 →
          t.ref.lock = .free ∧ t.ref.flywheel = 0 ∧ t.ref.lead = 1) ∧
        (s.ref.lock = .free → s.ref.origin = .clock ∨ s.ref.lead = 0 →
          t.ref.lock = .free ∧ t.ref.lead = 1 ∧ t.ref.flywheel = s.ref.flywheel) ∧
        (s.ref.lock = .free → s.ref.origin = .pulse → 1 ≤ s.ref.lead →
          t.ref.lock = .locked ∧ t.ref.lead = 0 ∧ t.ref.flywheel = 0 ∧
          ∀ q : Port, (s.ports.routing[1]).getLsbD q.val = true → ((t.ports.port[q]).alerts[1]).isSome = true)) ∧
      (s.ref.lock = .locked → s.ref.origin = .clock → s.ref.flywheel = 3 →
        exec (.localClockExpiry inputs) s = .next t ∨
          s.ref.frameRate.half ≤ e ∧ exec (.referencePulse e inputs) s = .next t →
        ∀ q : Port, (s.ports.routing[0]).getLsbD q.val = true →
          ((t.ports.port[q]).alerts[0]).map AlertEntry.alert = some (.refLost s.ref.counter)))

/-- An absorbed pulse moves the expiry and the owed MARK, and the first one in a CLOCK frame counts for the lock as a
frame led by a pulse does; the close of the absorption window leaves LOCKED after three flywheel frames and sets the
lead count back to 0, and changes nothing in any other case (R3, R7, R8). That ABSORPTION_WINDOW_CLOSE with the window
already closed changes nothing is the model's choice (log entry 4). -/
def Obligations.LockAccountingWithinFrames : Prop :=
  (∀ (s : State) (inputs : FrameIn) (e : Nat), s.quiet → e < s.ref.frameRate.half →
    (s.ref.origin = .pulse → exec (.referencePulse e inputs) s =
      .next (s.modRef fun r => { r with
        expiry := r.lastEvent + e + r.frameRate.period
        markDue := r.markDue.map fun _ => r.lastEvent + e + r.frameRate.half })) ∧
    (s.ref.origin = .clock → s.ref.lock = .locked → exec (.referencePulse e inputs) s =
      .next (s.modRef fun r => { r with
        expiry := r.lastEvent + e + r.frameRate.period
        markDue := r.markDue.map fun _ => r.lastEvent + e + r.frameRate.half
        origin := .pulse
        flywheel := 0 })) ∧
    (s.ref.origin = .clock → s.ref.lock = .free → s.ref.lead = 0 → exec (.referencePulse e inputs) s =
      .next (s.modRef fun r => { r with
        expiry := r.lastEvent + e + r.frameRate.period
        markDue := r.markDue.map fun _ => r.lastEvent + e + r.frameRate.half
        origin := .pulse
        lead := 1 })) ∧
    (s.ref.origin = .clock → s.ref.lock = .free → 1 ≤ s.ref.lead → exec (.referencePulse e inputs) s =
      .next ((s.modRef fun r => { r with
        expiry := r.lastEvent + e + r.frameRate.period
        markDue := r.markDue.map fun _ => r.lastEvent + e + r.frameRate.half
        origin := .pulse
        lock := .locked
        flywheel := 0
        lead := 0 }).raiseRouted (.refRegained s.ref.counter)).startNotices)) ∧
  (∀ s : State, s.quiet →
    (s.ref.windowOpen = false → exec .absorptionWindowClose s = .next s) ∧
    (s.ref.windowOpen = true →
      (s.ref.origin = .pulse →
        exec .absorptionWindowClose s = .next (s.modRef fun r => { r with windowOpen := false })) ∧
      (s.ref.origin = .clock → s.ref.lock = .free →
        exec .absorptionWindowClose s = .next (s.modRef fun r => { r with windowOpen := false, lead := 0 })) ∧
      (s.ref.origin = .clock → s.ref.lock = .locked → s.ref.flywheel ≤ 2 →
        exec .absorptionWindowClose s = .next (s.modRef fun r => { r with windowOpen := false })) ∧
      (s.ref.origin = .clock → s.ref.lock = .locked → s.ref.flywheel = 3 →
        exec .absorptionWindowClose s =
          .next ((s.modRef fun r => { r with windowOpen := false, lock := .free, flywheel := 0, lead := 0 }).raiseRouted
            (.refLost s.ref.counter)).startNotices)))

/-- The lock state and its counts stay legal: each count is used in its own state only, the flywheel count stays at 3 or
below and the lead count below 2 (R1, R7, R8). -/
def Obligations.LockCountsStayLegal : Prop :=
  ∀ s t : State, s.ref.legal → step s = .next t → t.ref.legal

/-- MARK is issued once: an owed MARK is ISSUED and leaves the rest of the Reference Unit, the wall, the lines, the
claim table, the roles and the image alone; with none owed nothing happens (R6; log entry 4 for the second). -/
def Obligations.MarkIsIssuedOnce : Prop :=
  ∀ (s : State) (order : List Nat),
    ((∃ due : Nat, s.ref.markDue = some due) →
      ∃ t : State, exec (.mark order) s = .next t ∧ t.ref = { s.ref with markDue := none } ∧ t.wall = s.wall ∧
        t.lines = s.lines ∧ t.access = s.access ∧ t.image = s.image ∧ t.ports.routing = s.ports.routing) ∧
    (s.quiet → s.ref.markDue = none → exec (.mark order) s = .next s)

/-! ### What the blocks do at FRAME -/

/-- The FRAME at which a pending take swaps the banks and starts or ends its transition, the FRAME at which a running
transition ends, and any other FRAME, here with no MARK owed: k rises by 1 while one runs, and an idle context stays
idle (R26, R27). That TAKE_SWAP and TRANSITION_END are the whole frame event is the model's choice (log entry 3). -/
def Obligations.TransitionsAtFrames : Prop :=
  ∀ (s : State) (ev : FrameEvent), s.leads ev.cause = true →
    (∀ n : SetNo, s.scene.trans = .pending n →
      ∃ t : State, exec (.takeSwap ev) s = .next t ∧ t.scene.program = s.scene.program.other ∧
        t.scene.trans = if (s.wall.sets[n]).duration ≤ 1 then .idle
          else .running ⟨n, (s.wall.sets[n]).duration, (s.wall.sets[n]).curve, 1, s.scene.program, false⟩) ∧
    (∀ n : SetNo, s.scene.trans = .pending n → (s.wall.sets[n]).duration ≤ 1 →
      ∃ t : State, exec (.transitionEnd ev) s = .next t ∧ t.scene.program = s.scene.program.other ∧
        t.scene.trans = .idle) ∧
    (∀ r : Running, s.scene.trans = .running r → (r.hurry = true ∨ r.frames ≤ r.k + 1) →
      ∃ t : State, exec (.transitionEnd ev) s = .next t ∧ t.scene.program = s.scene.program ∧
        t.scene.trans = .idle) ∧
    (s.ref.markDue = none → ∃ t : State, exec (frameCommand ev) s = .next t ∧
      (s.scene.trans = .idle → t.scene = s.scene) ∧
      (∀ r : Running, s.scene.trans = .running r → r.hurry = false → r.k + 1 < r.frames →
        t.scene = { s.scene with trans := .running { r with k := r.k + 1 } }))

/-- Every source port takes its step at every FRAME, its state, hold count and frames by the table of section 3.1, and
SOURCE_HOLD, SOURCE_LOST and SOURCE_BACK are raised for the ports whose step raises them (R35, R53). SOURCE_HOLD_EXPIRY
is the FRAME at which a port becomes LOST: that this row is the whole frame event, and what it does where the port does
not become LOST, is the model's choice (log entry 3). -/
def Obligations.SourcePortsStep : Prop :=
  (∀ (p : SourcePort) (f : SourceFrame), p.arrived = some f →
    p.step.1 = { p with state := .locked, holdCount := 0, held := some f, arrived := none } ∧
    p.step.2 = if p.state = .lost then some .back else none) ∧
  (∀ p : SourcePort, p.arrived = none →
    (p.state = .absent → p.step = ({ p with holdCount := 0 }, none)) ∧
    (p.state = .locked → 1 ≤ p.holdLimit → p.step = ({ p with state := .holding, holdCount := 1 }, some .hold)) ∧
    (p.state = .locked → p.holdLimit = 0 → p.step = ({ p with state := .lost, holdCount := 1 }, some .lost)) ∧
    (p.state = .holding → p.holdCount + 1 ≤ p.holdLimit →
      p.step = ({ p with holdCount := p.holdCount + 1 }, none)) ∧
    (p.state = .holding → p.holdLimit < p.holdCount + 1 →
      p.step = ({ p with state := .lost, holdCount := p.holdCount + 1 }, some .lost)) ∧
    (p.state = .lost → p.step = (p, none))) ∧
  (∀ (s : State) (ev : FrameEvent), s.leads ev.cause = true →
    let stepped (t : State) : Prop := (∀ q : SourceNo, t.wall.sources[q] = (s.wall.sources[q]).step.1) ∧
      ∀ q : Port,
        ((s.ports.routing[2]).getLsbD q.val = true → (∃ x : SourceNo, (s.wall.sources[x]).step.2 = some .hold) →
          ∃ x : SourceNo, (s.wall.sources[x]).step.2 = some .hold ∧
            ((t.ports.port[q]).alerts[2]).map AlertEntry.alert = some (.sourceHold x (s.ref.counter + 1))) ∧
        ((s.ports.routing[3]).getLsbD q.val = true → (∃ x : SourceNo, (s.wall.sources[x]).step.2 = some .lost) →
          ∃ x : SourceNo, (s.wall.sources[x]).step.2 = some .lost ∧
            ((t.ports.port[q]).alerts[3]).map AlertEntry.alert = some (.sourceLost x (s.ref.counter + 1))) ∧
        ((s.ports.routing[4]).getLsbD q.val = true → (∃ x : SourceNo, (s.wall.sources[x]).step.2 = some .back) →
          ∃ x : SourceNo, (s.wall.sources[x]).step.2 = some .back ∧
            ((t.ports.port[q]).alerts[4]).map AlertEntry.alert = some (.sourceBack x (s.ref.counter + 1)))
    (∃ t : State, exec (frameCommand ev) s = .next t ∧ stepped t) ∧
    ∀ src : SourceNo,
      ((s.wall.sources[src]).step.2 = some .lost → ∃ t : State, exec (.sourceHoldExpiry ev src) s = .next t ∧
        (t.wall.sources[src]).state = .lost ∧ stepped t) ∧
      (s.quiet → (s.wall.sources[src]).step.2 ≠ some .lost → exec (.sourceHoldExpiry ev src) s = .next s))

/-- At FRAME the tally lines are sampled and a window or group is in shot exactly when the shot map entry of an ACTIVE
line names it (R157, R159); and the Level Engine and the Wall Mapper take together what the frame's computation and
scan need, as it stands after the Scene Memory's step (R46, R60). With no MARK owed, the scan of a FRAME that sees no
transition is measured and mixes nothing, and the scan of one that sees a transition is not measured and mixes the
outgoing bank's picture at the weight of the frame, a cut mixing nothing (R43, R44, R51). That a MARK owed at the frame
event comes before these reads is the model's choice (log entry 35). -/
def Obligations.FrameTakesItsInputs : Prop :=
  ∀ (s : State) (ev : FrameEvent), s.leads ev.cause = true → ∃ t : State, exec (frameCommand ev) s = .next t ∧
    (t.tally.lines = ev.inputs.tally ∧ t.tally.shotMap = s.tally.shotMap ∧
      (∀ w : WindowNo, t.tally.inShotWindows.getLsbD w.val = true ↔
        ∃ i : TallyNo, ev.inputs.tally.getLsbD i.val = true ∧ (s.tally.shotMap[i]).windows.getLsbD w.val = true) ∧
      (∀ g : GroupNo, t.tally.inShotGroups.getLsbD g.val = true ↔
        ∃ i : TallyNo, ev.inputs.tally.getLsbD i.val = true ∧ (s.tally.shotMap[i]).groups.getLsbD g.val = true)) ∧
    (∃ c : Computation, t.level.comp = some c ∧ c.frame = s.ref.counter + 1 ∧
      c.channels = (t.scene.bank t.scene.program).channels ∧ c.overrides = t.takeover.overrides ∧
      c.safety = t.takeover.inForce ∧ c.safetyFade = t.takeover.safetyFade ∧ c.releaseFade = t.level.releaseFade ∧
      c.masters = t.level.masters ∧ c.patch = t.level.patch ∧ c.lum = t.wall.lum) ∧
    (∃ r : ScanRecord, t.wall.scan = some r ∧ r.frame = s.ref.counter + 1 ∧ r.sources = t.wall.sources ∧
      r.new = (t.scene.bank t.scene.program).picture t.takeover.overrides ∧ r.links = t.wall.links ∧
      (r.safetyWall = if t.takeover.inForce then some t.takeover.safetyWall else none) ∧
      (s.ref.markDue = none →
        let mixes (old : BankName) (weight : Nat) : Prop := r.measured = false ∧
          r.mix = some ((t.scene.bank old).picture t.takeover.overrides, weight)
        (s.scene.trans = .idle → r.measured = true ∧ r.mix = none) ∧
        (∀ n : SetNo, s.scene.trans = .pending n →
          ((s.wall.sets[n]).duration ≤ 1 → r.measured = false ∧ r.mix = none) ∧
          (2 ≤ (s.wall.sets[n]).duration →
            mixes s.scene.program ((s.wall.sets[n]).curve.weight 1 (s.wall.sets[n]).duration))) ∧
        (∀ x : Running, s.scene.trans = .running x →
          (x.hurry = false → x.k + 1 < x.frames → mixes x.outgoing (x.curve.weight (x.k + 1) x.frames)) ∧
          (x.hurry = true ∨ x.frames ≤ x.k + 1 → 1 ≤ x.frames → mixes x.outgoing 65536))))

/-- A handover without auto-yield whose expiry has come ends at that FRAME with the claim left to its owner; and a
CONTESTED claim with auto-yield moves to the waiting port at the FRAME at which it is free to move, here one with no
MARK owed and no computation under way (R151, R152). That AUTO_YIELD and HANDOVER_EXPIRY are the whole frame event is
the model's choice (log entry 3). -/
def Obligations.HandoversEndAtFrames : Prop :=
  ∀ (s : State) (ev : FrameEvent) (id : ClaimId) (c : Claim) (w : Contest), s.leads ev.cause = true →
    s.access.claims[id] = some c → c.contest = some w →
    (c.autoYield = false → w.expiry.isPast (s.ref.counter + 1) = true →
      ∃ t : State, exec (.handoverExpiry ev id) s = .next t ∧
        t.access.claims[id] = some { c with contest := none } ∧
        ((t.ports.port[w.waiting]).alerts[16]).isSome = true) ∧
    (c.autoYield = true → s.ref.markDue = none → s.level.comp = none → s.freeToMove s.nextView c.range = true →
      ∃ t : State, exec (.autoYield ev id) s = .next t ∧
        t.access.claims[id] = some { c with owner := w.waiting, contest := none } ∧
        ((t.ports.port[w.waiting]).alerts[15]).isSome = true)

/-! ### Wall Mapper (R34, R38 to R52) -/

/-- A whole source frame of a raster that can be shown becomes the arrived frame, and one of any other raster, or one
that the port discards, changes nothing (R34); the end of a measured scan moves each filtered luminance a quarter of
the way to its new measurement and records the pixel counts, and an unmeasured one leaves them (R50 to R52). -/
def Obligations.WallInputsAndMeasurement : Prop :=
  (∀ (s : State) (p : SourceNo) (f : SourceFrame),
    (1 ≤ f.width → f.width ≤ 3840 → 1 ≤ f.height → f.height ≤ 2160 → f.pixels.length = f.width * f.height →
      exec (.sourceFrameComplete p f) s = .next { s with wall := { s.wall with
        sources := updAt s.wall.sources p fun q => { q with arrived := some f } } }) ∧
    (f.width = 0 ∨ 3840 < f.width ∨ f.height = 0 ∨ 2160 < f.height →
      exec (.sourceFrameComplete p f) s = .next s) ∧
    exec (.sourceFrameDiscard p) s = .next s) ∧
  (∀ (s : State) (r : ScanRecord), s.wall.scan = some r →
    (r.measured = true → ∃ t : State, exec .scanEnd s = .next t ∧
      (∀ i : WindowNo, t.wall.count[i] = r.pixelCount i ∧
        (r.pixelCount i = 0 → t.wall.lum[i] = s.wall.lum[i]) ∧
        (r.pixelCount i ≠ 0 →
          t.wall.lum[i] = (3 * s.wall.lum[i] + r.lumaSum i * 16 / r.pixelCount i + 2) / 4)) ∧
      t = { s with wall := { s.wall with lum := t.wall.lum, count := t.wall.count, scan := none } }) ∧
    (r.measured = false → exec .scanEnd s = .next { s with wall := { s.wall with scan := none } }))

/-- The covering window of a pixel is an enabled window that contains it, of the highest layer and of the lowest
number in that layer, and there is none only where no enabled window contains the pixel (R39); a dissolve shows the
old picture at weight 0, the new one at full weight, and stays between them (R43, R44). -/
def Obligations.CanvasPixels : Prop :=
  (∀ (p : Picture) (x y : Nat),
    (∀ i : WindowNo, p.covering x y = some i →
      (p.windows[i]).candidate x y = true ∧
      ∀ j : WindowNo, (p.windows[j]).candidate x y = true →
        (p.windows[j]).layer < (p.windows[i]).layer ∨ (p.windows[j]).layer = (p.windows[i]).layer ∧ i ≤ j) ∧
    (p.covering x y = none → ∀ j : WindowNo, (p.windows[j]).candidate x y = false)) ∧
  (∀ (old new w : Nat), w ≤ 65536 →
    mixComponent 0 old new = old ∧ mixComponent 65536 old new = new ∧
    min old new ≤ mixComponent w old new ∧ mixComponent w old new ≤ max old new)

/-! ### Level Engine (R62 to R72) -/

/-- Levels-ready leaves the contexts and outputs of the computation, counts each group's saturations and hands its
slot images to the lines; every other block keeps its state but for the alerts it raises (R59, R61, R82, R85). -/
def Obligations.LevelsReadyResults : Prop :=
  ∀ (s : State) (c : Computation), s.level.comp = some c →
    ∃ t : State, exec .levelsReady s = .next t ∧ t.level.comp = none ∧
      (∀ n : ChannelNo, t.level.contexts[n] = c.fade n s.level.contexts[n] ∧
        t.level.results[n] = c.output n (c.fade n s.level.contexts[n])) ∧
      (∀ g : GroupNo, t.level.clipCounts[g] = min 65535 (s.level.clipCounts[g] + clipsOf c.patch t.level.results g) ∧
        (t.level.clipFlags.getLsbD g.val = true ↔
          s.level.clipFlags.getLsbD g.val = true ∨ 0 < clipsOf c.patch t.level.results g)) ∧
      (∀ l : LineNo, t.lines[l] = ((s.lines[l]).levelsReady c.frame (slotImage c.patch t.level.results l)).1) ∧
      t.ref = s.ref ∧ t.scene = s.scene ∧ t.wall = s.wall ∧ t.cue = s.cue ∧ t.takeover = s.takeover ∧
      t.access = s.access ∧ t.tally = s.tally ∧ t.image = s.image ∧ t.level.patch = s.level.patch ∧
      t.level.masters = s.level.masters ∧ t.level.releaseFade = s.level.releaseFade

/-- A channel is driven by its safety level in safety, else by the override of the highest level, else by its bank
(R62, R123). Its fade goes on where neither target nor source changed, and otherwise restarts from its base with the
duration and curve of the kind of change (R64); the base follows the curve's weight, stays between start and target
and reaches the target at the last frame (R65). Follow term, saturation, master, limit and output curve make the
output of the base (R67 to R71), and the output shows in the channel's slots in the patch's byte order, a slot that no
channel occupies being 0 (R54, R72). -/
def Obligations.LevelsReachTheirSlots : Prop :=
  (∀ (start target n k : Nat) (curve : Curve), k ≤ n →
    min start target ≤ fadeBase start target n k curve ∧ fadeBase start target n k curve ≤ max start target ∧
    fadeBase start target n n curve = target ∧
    ∀ p w : Nat, n ≠ 0 → p = k * 65536 / n → (curve = .linear → w = p) →
      (curve = .soft → w = p ^ 2 * (196608 - 2 * p) / 2 ^ 32) →
      ∃ d : Int, (fadeBase start target n k curve : Int) = start + d ∧
        d * 65536 ≤ ((target : Int) - start) * w + 32768 ∧ ((target : Int) - start) * w + 32768 < d * 65536 + 65536) ∧
  (∀ (c : Computation) (n : ChannelNo) (x : FadeContext),
    let now := c.target n
    let y := c.fade n x
    y.base = fadeBase y.start y.target y.frames y.k y.curve ∧
    (x.target = now.1 → x.source = now.2 →
      y = { x with k := if x.k < x.frames then x.k + 1 else x.k, base := y.base }) ∧
    (x.target ≠ now.1 ∨ x.source ≠ now.2 →
      y.start = x.base ∧ y.target = now.1 ∧ y.source = now.2 ∧ y.k = min 1 y.frames ∧
      (now.2 = .bank → x.source = .bank → y.frames = (c.channels[n]).fade ∧ y.curve = (c.channels[n]).curve) ∧
      (now.2 ≠ .bank ∨ x.source ≠ .bank → y.curve = .linear) ∧
      (now.2 = .safety ∨ x.source = .safety → y.frames = c.safetyFade) ∧
      (∀ l : Nat, x.source = .override l →
        (now.2 = .bank → y.frames = c.releaseFade) ∧
        ∀ m : Nat, now.2 = .override m → m < l → y.frames = c.releaseFade) ∧
      ∀ (e : Override) (v d : Nat), now.2 = .override e.level → e ∈ c.overrides → c.overrides.Pairwise Override.apart →
        (∀ z ∈ c.overrides, isTakeover z.level = true) → e.item = .channel n v d →
        (∀ z ∈ c.overrides, z.item.key = .channel n → z.level ≤ e.level) →
        (x.source = .bank ∨ ∃ l, l ≤ e.level ∧ x.source = .override l) → y.frames = d)) ∧
  (∀ (c : Computation) (n : ChannelNo) (x : FadeContext) (f : Int) (v v2 v3 : Nat),
    let p := c.patch[n]
    let y := c.output n x
    (x.source = .safety ∨ p.follow = none → f = 0) →
    (∀ w : WindowNo, x.source ≠ .safety → p.follow = some w →
      f * 16 ≤ p.gain * ((c.lum[w] : Int) - p.reference) ∧ p.gain * ((c.lum[w] : Int) - p.reference) < f * 16 + 16) →
    (v : Int) = max 0 (min 65535 (x.base + f)) →
    (x.source = .safety → v2 = v) → (x.source ≠ .safety → v2 = (v * c.masters[p.group] + 128) / 256) →
    v3 = min v2 p.limit →
    (y.saturated = true ↔ (x.base : Int) + f < 0 ∨ 65535 < (x.base : Int) + f) ∧
    (p.curve = .linear → y.out = v3) ∧ (p.curve = .square → y.out = (v3 ^ 2 + 32767) / 65535)) ∧
  (∀ (c : Computation) (n : ChannelNo),
    (∀ v : Nat, c.safety = true → (c.patch[n]).safety = some v → c.target n = (v, .safety)) ∧
    (c.safety = false ∨ (c.patch[n]).safety = none →
      (∀ (e : Override) (v d : Nat), e ∈ c.overrides → c.overrides.Pairwise Override.apart →
        (∀ x ∈ c.overrides, isTakeover x.level = true) → e.item = .channel n v d →
        (∀ x ∈ c.overrides, x.item.key = .channel n → x.level ≤ e.level) → c.target n = (v, .override e.level)) ∧
      ((∀ x ∈ c.overrides, x.item.key ≠ .channel n) → c.target n = ((c.channels[n]).level, .bank)))) ∧
  (∀ (s : State) (l : LineNo), s.patchLegal →
    (∀ n : ChannelNo, (s.level.patch[n]).line = some l →
      ((s.level.patch[n]).width = 1 →
        slotValue s.level.patch s.level.results l (s.level.patch[n]).slot =
          BitVec.ofNat 8 ((s.level.results[n]).out / 256)) ∧
      ((s.level.patch[n]).width = 2 → (s.level.patch[n]).fineFirst = false →
        slotValue s.level.patch s.level.results l (s.level.patch[n]).slot =
          BitVec.ofNat 8 ((s.level.results[n]).out / 256) ∧
        slotValue s.level.patch s.level.results l ((s.level.patch[n]).slot + 1) =
          BitVec.ofNat 8 (s.level.results[n]).out) ∧
      ((s.level.patch[n]).width = 2 → (s.level.patch[n]).fineFirst = true →
        slotValue s.level.patch s.level.results l (s.level.patch[n]).slot =
          BitVec.ofNat 8 (s.level.results[n]).out ∧
        slotValue s.level.patch s.level.results l ((s.level.patch[n]).slot + 1) =
          BitVec.ofNat 8 ((s.level.results[n]).out / 256))) ∧
    (∀ slot : Nat, (∀ n : ChannelNo, (s.level.patch[n]).occupies l slot = false) →
      slotValue s.level.patch s.level.results l slot = 0))

/-! ### Line Drivers (R80 to R85) -/

/-- At levels-ready an enabled IDLE line starts its packet, a SENDING one keeps the newest computation waiting and
counts the one it replaces as skipped, and a disabled one takes nothing (R81, R82, R85); at the end of a packet the
waiting computation is sent at once on an enabled line, and any other line becomes IDLE (R83). -/
def Obligations.LinesSendComputations : Prop :=
  (∀ (l : Line) (frame : Frame) (image : List Byte),
    (l.enabled = false → l.levelsReady frame image = (l, none)) ∧
    (l.enabled = true → l.inFlight = none → l.levelsReady frame image =
      ({ l with inFlight := some ⟨frame, l.slots, l.breakLen, image.take l.slots⟩, waiting := none }, none)) ∧
    (l.enabled = true → l.inFlight.isSome = true → l.waiting = none →
      l.levelsReady frame image = ({ l with waiting := some ⟨frame, image⟩ }, none)) ∧
    (∀ m : Waiting, l.enabled = true → l.inFlight.isSome = true → l.waiting = some m →
      l.levelsReady frame image =
        ({ l with waiting := some ⟨frame, image⟩, skips := satSucc 65535 l.skips, skipArmed := false },
         if l.skipArmed then some (m.frame, satSucc 65535 l.skips) else none))) ∧
  (∀ (s : State) (l : LineNo) (f : InFlight), (s.lines[l]).inFlight = some f →
    (∀ w : Waiting, (s.lines[l]).enabled = true → (s.lines[l]).waiting = some w →
      exec (.packetEnd l) s = .next (s.modLine l fun x => { x with
        lastPacket := some f.frame
        inFlight := some ⟨w.frame, x.slots, x.breakLen, w.image.take x.slots⟩
        waiting := none })) ∧
    ((s.lines[l]).enabled = false ∨ (s.lines[l]).waiting = none →
      exec (.packetEnd l) s = .next (s.modLine l fun x => { x with lastPacket := some f.frame, inFlight := none })))

/-! ### What the stacks do at MARK (R96 to R98, R102, R106, R117, R118, R167) -/

/-- What a stack does at an owed MARK (R96 to R98, R100, R102, R106 to R109). First the loop markers' table (R107).
Then the firing of a stack that is not suspended, at a MARK at which every other stack rests: at the end of its wait,
through a chained GO, as a repeat, or on its armed target or up to its grace late, with CUE_LATE, its cue's actions
execute in order and the stack then repeats, or advances as the marker and the list lead it; an arm past its grace is
dropped with CUE_EXPIRED, and a chained GO at END is dropped. Last, at any MARK, a stack that is not suspended counts
its wait or its interval down by one and leaves an arm of the future standing, and a suspended one is held as it
stands. That the rows WAIT_EXPIRY, CHAINED_GO, REPEAT_INTERVAL_EXPIRY and ARM_TARGET are the whole MARK is the model's
choice (log entry 3), as is END for a loop start or a next cue that the store does not hold (log entry 16); the order
of the firing and the application step is free (log entry 7). A firing of a stack that is not REPEATING is a first
one, after a HALT too, which is the model's reading (log entry 39). -/
def Obligations.StacksActAtMark : Prop :=
  (∀ (q : Cue) (x : LoopContext),
    (q.body.marker = .none → loopStep q none = (none, none, none) ∧ loopStep q (some x) = (some x, none, none)) ∧
    (q.body.marker = .loopStart → loopStep q none = (some ⟨q.number, q.body.loopCount⟩, none, none) ∧
      (x.startCue = q.number → loopStep q (some x) = (some x, none, none)) ∧
      (x.startCue ≠ q.number → loopStep q (some x) = (some x, none, some x.startCue))) ∧
    (q.body.marker = .loopEnd → loopStep q none = (none, none, none) ∧
      (x.remaining = 0 → loopStep q (some x) = (none, none, none)) ∧
      (1 ≤ x.remaining → loopStep q (some x) = (some ⟨x.startCue, x.remaining - 1⟩, some x.startCue, none)))) ∧
  (∀ (s : State) (order : List Nat) (k : StackNo) (n : Nat) (q : Cue), s.preemptionLegal →
    s.ref.markDue.isSome = true → (∀ j : StackNo, j ≠ k → s.restsAt j) → s.mayRun k →
    (s.cue.recs[k]).pendingGo = false → (s.cue.recs[k]).position = some n → s.cue.find k n = some q →
    let leaves (c : Instr) (act : State → State) : Prop := ∃ t : State, exec c s = .next t ∧ s.marked act t
    ((s.cue.recs[k]).chainedGo = false →
      ((s.cue.recs[k]).state = .waiting 0 → leaves (.waitExpiry order k) fun u => u.fired k q q.body.repeats) ∧
      (∀ r : Nat, (s.cue.recs[k]).state = .repeating r 0 →
        leaves (.repeatIntervalExpiry order k) fun u => u.fired k q (r - 1)) ∧
      (∀ (f : Frame) (g : Nat), (s.cue.recs[k]).state = .armed f g → g ≤ 65535 →
        let late := (s.ref.counter + 1 - f).toNat
        (late = 0 → leaves (.armTarget order k) fun u => u.fired k q q.body.repeats) ∧
        (1 ≤ late → late ≤ g → leaves (.armTarget order k) fun u =>
          (u.raiseStack k (.cueLate k n f (BitVec.ofNat 32 late) s.ref.counter)).fired k q q.body.repeats) ∧
        (g < late → late < 2 ^ 31 → leaves (.armTarget order k) fun u =>
          (u.modStack k fun r => { r with state := .idle }).raiseStack k
            (.cueExpired k n f (BitVec.ofNat 32 late) s.ref.counter)))) ∧
    ((s.cue.recs[k]).chainedGo = true →
      (s.cue.recs[k]).state = .idle ∨ (∃ m, (s.cue.recs[k]).state = .waiting m) ∨
        (∃ f g, (s.cue.recs[k]).state = .armed f g) →
      leaves (.chainedGo order k) fun u =>
        (u.modStack k fun r => { r with state := .waiting 0, chainedGo := false }).fired k q q.body.repeats)) ∧
  (∀ (s : State) (order : List Nat) (k : StackNo), s.ref.markDue.isSome = true →
    (∀ j : StackNo, j ≠ k → s.restsAt j) → (s.cue.recs[k]).pendingGo = false → (s.cue.recs[k]).chainedGo = true →
    (s.cue.recs[k]).state = .ended →
    ∃ t : State, exec (.chainedGo order k) s = .next t ∧
      s.marked (fun u => u.modStack k fun r => { r with chainedGo := false }) t) ∧
  (∀ (s : State) (order : List Nat) (k : StackNo), s.preemptionLegal → s.ref.markDue.isSome = true →
    (s.cue.recs[k]).chainedGo = false →
    let becomes (x : StackState) : Prop := ∃ t : State, exec (.mark order) s = .next t ∧
      t.cue.recs[k] = { s.cue.recs[k] with state := x, chainedGo := (t.cue.recs[k]).chainedGo }
    (s.mayRun k → (s.cue.recs[k]).pendingGo = false →
      (∀ m : Nat, (s.cue.recs[k]).state = .waiting (m + 1) → becomes (.waiting m)) ∧
      (∀ r i : Nat, (s.cue.recs[k]).state = .repeating r (i + 1) → becomes (.repeating r i)) ∧
      (∀ (f : Frame) (g : Nat), (s.cue.recs[k]).state = .armed f g → g ≤ 65535 →
        2 ^ 31 ≤ (s.ref.counter + 1 - f).toNat → becomes (.armed f g)) ∧
      ((s.cue.recs[k]).state = .idle ∨ (s.cue.recs[k]).state = .ended → becomes (s.cue.recs[k]).state)) ∧
    ((s.cue.recs[k]).level < s.takeover.mask ∨ isTakeover (s.cue.recs[k]).level = true ∧
        (s.cue.recs[k]).level = s.takeover.mask ∧ s.takeover.onTop k = false → becomes (s.cue.recs[k]).state))

/-- What an action of a firing does (R103 to R105, R121, R122): the claims of the stack's owner, the shot guards and
the transition in flight decide a show stack's action, and one that fails is skipped whole, its stack's count and
ACTION_SKIPPED alone telling of it; a takeover stack's LEVEL and WINDOW actions write the override table at its level
under the guards and the table's room, and its other actions are a show stack's without the claims. That an override
written under DEFER is alerted as under ALERT, once, for the lowest item of the two and with its guard as it stands,
is the model's reading (log entry 25). -/
def Obligations.CueActionsExecute : Prop :=
  ∀ (s : State) (k : StackNo) (cue place : Nat),
    let owner := s.access.stackOwner k
    let level := (s.cue.recs[k]).level
    let skipped (reason : SkipReason) : State :=
      (s.modStack k fun r => { r with skipped := if r.skipped < 65535 then r.skipped + 1 else 65535 }).raiseTo
        (match owner with
          | some p => onlyPort p
          | none => s.ports.routing[6])
        (.actionSkipped k cue place reason s.ref.counter)
    let skips (a : Action) (reason : SkipReason) : Prop := s.act k cue place a = skipped reason
    let guarded (a : Action) (ws : List ItemWrite) : Prop :=
      s.guardsDecide (.stack k) ws (skips a .guarded) (skips a .queueFull) fun t _ => s.act k cue place a = t
    (isTakeover level = false →
      (∀ (role : BankRole) (first last n : ChannelNo) (v d : Nat), first ≤ n → n ≤ last →
        s.access.denied owner (.channel n) = true → skips (.level role first last v d) .denied) ∧
      (∀ (role : BankRole) (w : WindowNo) (v : FieldValue), s.access.denied owner (.window w) = true →
        skips (.window role w v) .denied) ∧
      (∀ (g : GroupNo) (v : Nat), s.access.denied owner (.group g) = true → skips (.master g v) .denied) ∧
      (∀ j : StackNo, s.access.denied owner (.stack j) = true → skips (.goStack j) .denied) ∧
      (∀ (role : BankRole) (first last : ChannelNo) (v d : Nat),
        (∀ n : ChannelNo, first ≤ n → n ≤ last → s.access.denied owner (.channel n) = false) →
        (role = .preset → s.scene.inFlight = true → skips (.level role first last v d) .bankBusy) ∧
        (role = .program ∨ s.scene.inFlight = false → guarded (.level role first last v d)
          ((channelRange first last).map fun n => .channel (s.scene.resolve role) n v (some d) none))) ∧
      (∀ (role : BankRole) (w : WindowNo) (v : FieldValue), s.access.denied owner (.window w) = false →
        (role = .preset → s.scene.inFlight = true → skips (.window role w v) .bankBusy) ∧
        (role = .program ∨ s.scene.inFlight = false →
          guarded (.window role w v) [.window (s.scene.resolve role) w v]))) ∧
    (∀ (g : GroupNo) (v : Nat), isTakeover level = true ∨ s.access.denied owner (.group g) = false →
      guarded (.master g v) [.master g v]) ∧
    (∀ j : StackNo, isTakeover level = true ∨ s.access.denied owner (.stack j) = false →
      s.act k cue place (.goStack j) = s.modStack j fun r => { r with chainedGo := true }) ∧
    ((s.scene.inFlight = true → skips .copy .bankBusy) ∧
      (s.scene.inFlight = false → s.act k cue place .copy = { s with
        scene := s.scene.modBank s.scene.program.other fun _ => s.scene.bank s.scene.program
        tally := { s.tally with
          queue := s.tally.queue.filter fun d => decide (d.write.bank ≠ some s.scene.program.other) } })) ∧
    (isTakeover level = true →
      let free := 256 - s.takeover.overrides.length
      let overflows (a : Action) (needed : Nat) : Prop := s.act k cue place a =
        (skipped .overrideFull).raiseTo s.ports.routing[12] (.overrideFull k cue needed free s.ref.counter)
      let stores (a : Action) (item : OverrideKey → Option OverrideItem) (alerting : Option GuardedItem) : Prop :=
        ∃ table : List Override,
          (∀ (key : OverrideKey) (l : Nat), overrideAt table key l = if l = level then
            (match item key with
              | some i => some ⟨level, i, k⟩
              | none => overrideAt s.takeover.overrides key l)
            else overrideAt s.takeover.overrides key l) ∧
          let u : State := { s with takeover := { s.takeover with overrides := table } }
          s.act k cue place a = match alerting with
            | some i => u.raiseTo s.ports.routing[7]
                (.guardAlert i ((s.shotGuard i).getD .openMode) (.stack k) .override s.ref.counter)
            | none => u
      let alerts (i : GuardedItem) : Prop := s.shotGuard i = some .alert ∨ s.shotGuard i = some .defer
      (∀ (role : BankRole) (first last : ChannelNo) (v d : Nat),
        let a : Action := .level role first last v d
        let needed := ((channelRange first last).filter fun n =>
          (overrideAt s.takeover.overrides (.channel n) level).isNone).length
        let item (key : OverrideKey) : Option OverrideItem := match key with
          | .channel n => if first ≤ n ∧ n ≤ last then some (.channel n v d) else none
          | .window _ _ => none
        ((∃ n : ChannelNo, first ≤ n ∧ n ≤ last ∧ s.shotGuard (.channel n) = some .refuse) → skips a .guarded) ∧
        ((∀ n : ChannelNo, first ≤ n → n ≤ last → s.shotGuard (.channel n) ≠ some .refuse) →
          (free < needed → overflows a needed) ∧
          (needed ≤ free →
            ((∀ n : ChannelNo, first ≤ n → n ≤ last → ¬ alerts (.channel n)) → stores a item none) ∧
            (∀ n : ChannelNo, first ≤ n → n ≤ last → alerts (.channel n) →
              (∀ m : ChannelNo, first ≤ m → m < n → ¬ alerts (.channel m)) → stores a item (some (.channel n)))))) ∧
      (∀ (role : BankRole) (w : WindowNo) (v : FieldValue),
        let a : Action := .window role w v
        let needed := if (overrideAt s.takeover.overrides (.window w v.group) level).isNone then 1 else 0
        let item (key : OverrideKey) : Option OverrideItem :=
          if key = .window w v.group then some (.window w v) else none
        (s.shotGuard (.window w) = some .refuse → skips a .guarded) ∧
        (s.shotGuard (.window w) ≠ some .refuse →
          (free < needed → overflows a needed) ∧
          (needed ≤ free →
            (¬ alerts (.window w) → stores a item none) ∧ (alerts (.window w) → stores a item (some (.window w)))))))

/-- The grant of a MARK (R117, R118). A takeover stack with an accepted GO or a pending one and a level above the
mask, of the highest level of those that ask and of the lowest number in it, is pushed on top and the mask becomes its
level, which it keeps where its cue does not release it at this same firing; the other stacks whose GO was accepted
become IDLE with a pending GO, and those with a pending GO keep it. A stack on top with a pending GO, where no other
asks, is granted with nothing pushed. TAKEOVER_CHANGE is raised, and the granted stack fires its cue. Every other
stack rests or is one of the losers. That the row TAKEOVER_GRANT is the whole MARK is the model's choice (log entry
3), and the order of the firing and the application step is free (log entry 7). That this firing is always a first one
is the model's reading (log entry 39). -/
def Obligations.TakeoversAreGranted : Prop :=
  ∀ (s : State) (order : List Nat) (k : StackNo) (n : Nat), s.preemptionLegal →
    s.ref.markDue.isSome = true → isTakeover (s.cue.recs[k]).level = true → (s.cue.recs[k]).chainedGo = false →
    (s.cue.recs[k]).position = some n →
    let level := (s.cue.recs[k]).level
    let asks (j : StackNo) : Prop := isTakeover (s.cue.recs[j]).level = true ∧
      s.takeover.mask < (s.cue.recs[j]).level ∧ (s.cue.recs[j]).chainedGo = false ∧
      ((∃ m, (s.cue.recs[j]).state = .waiting m) ∨
        (s.cue.recs[j]).pendingGo = true ∧ (s.cue.recs[j]).state = .idle)
    let accepted : State := (s.modStack k fun r => { r with state := .waiting 0, pendingGo := false }).raiseRouted
      (.takeoverChange .accepted (some (level, k)) level s.ref.counter)
    (asks k → (∀ j : StackNo, j ≠ k → s.restsAt j ∨ asks j ∧
        ((s.cue.recs[j]).level < level ∨ (s.cue.recs[j]).level = level ∧ k < j)) →
      ∃ t : State, exec (.takeoverGrant order) s = .next t ∧ t.ref.markDue = none ∧ (t.cue.recs[k]).pendingGo = false ∧
        ((∀ q : Cue, s.cue.find k n = some q → q.body.release = false) →
          t.takeover.stack = s.takeover.stack ++ [.level level k] ∧ t.takeover.mask = level) ∧
        (∀ j : StackNo, j ≠ k → asks j → (t.cue.recs[j]).state = .idle ∧ (t.cue.recs[j]).pendingGo = true ∧
          (t.cue.recs[j]).position = (s.cue.recs[j]).position) ∧
        ∃ u : State, u = { s with
            cue := { s.cue with recs := u.cue.recs }
            takeover := { s.takeover with stack := s.takeover.stack ++ [.level level k] } } ∧
          u.cue.recs[k] = { s.cue.recs[k] with state := .waiting 0, pendingGo := false } ∧
          (∀ j : StackNo, j ≠ k → (s.restsAt j → u.cue.recs[j] = s.cue.recs[j]) ∧
            (asks j → u.cue.recs[j] = { s.cue.recs[j] with state := .idle, pendingGo := true })) ∧
          ∀ q : Cue, s.cue.find k n = some q →
            (u.raiseRouted (.takeoverChange .pushed (some (level, k)) level s.ref.counter)).marked
              (fun v => v.fired k q q.body.repeats) t) ∧
    ((∀ j : StackNo, j ≠ k → s.restsAt j) → s.takeover.onTop k = true → (s.cue.recs[k]).state = .idle →
      (s.cue.recs[k]).pendingGo = true →
      ∃ t : State, exec (.takeoverGrant order) s = .next t ∧ t.ref.markDue = none ∧ (t.cue.recs[k]).pendingGo = false ∧
        ((∀ q : Cue, s.cue.find k n = some q → q.body.release = false) → t.takeover.stack = s.takeover.stack) ∧
        ∀ q : Cue, s.cue.find k n = some q → accepted.marked (fun u => u.fired k q q.body.repeats) t)

/-- At an owed MARK at which every stack rests, every releasable entry of the deferred queue is written to its bank or
master, oldest first, and leaves the queue; the others stay (R167, R169). DEFER_APPLIED is raised once to each port
that had an entry applied, by its own writes or by those of a stack that it owns, and once to the routing set for the
entries of stacks without an owner: it carries their number, the target and the bank of the last of them, its cause
and the counter, and the other kinds stay (R168). That the row DEFER_APPLY is the whole owed MARK and issues it is the
model's choice (log entry 3); that a port in the routing set with entries of its own receives both alerts is its
reading (log entry 34), their order being free (log entry 8), as is the cause where two apply (log entry 15). -/
def Obligations.DeferredWritesAreApplied : Prop :=
  ∀ (s : State) (order : List Nat), s.ref.markDue.isSome = true → (∀ j : StackNo, s.restsAt j) →
    (∃ d ∈ s.tally.queue, (s.releasable d).isSome = true) →
    let appliedFor (port : Option Port) : List Deferred :=
      s.tally.queue.filter fun d => (s.releasable d).isSome && decide (s.originPort d = port)
    let cause (w : ItemWrite) (c : DeferCause) : Prop :=
      if w.bank ≠ none ∧ w.bank ≠ some s.scene.program then c = .preset
      else c = .shot ∧ s.shotGuard w.item = none ∨
        c = .guard ∧ match w.item with
          | .window i => s.tally.windowGuards[i] ≠ .defer
          | .channel n => s.tally.groupGuards[(s.level.patch[n]).group] ≠ .defer
          | .master g => s.tally.groupGuards[g] ≠ .defer
    let tells (port : Option Port) (a : Alert) : Prop := ∃ (d : Deferred) (c : DeferCause),
      (appliedFor port).getLast? = some d ∧ cause d.write c ∧
        a = .deferApplied (appliedFor port).length d.write.target d.write.bank c s.ref.counter
    ∃ t : State, exec (.deferApply order) s = .next t ∧
      t.tally = { s.tally with queue := s.tally.queue.filter fun d => (s.releasable d).isNone } ∧
      t.scene = ((s.tally.queue.filter fun d => (s.releasable d).isSome).foldl
        (fun u d => u.writeItem d.write) s).scene ∧
      t.level = ((s.tally.queue.filter fun d => (s.releasable d).isSome).foldl
        (fun u d => u.writeItem d.write) s).level ∧
      t.cue = s.cue ∧ t.takeover = s.takeover ∧ t.wall = s.wall ∧ t.lines = s.lines ∧ t.access = s.access ∧
      t.image = s.image ∧ t.ref = { s.ref with markDue := none } ∧
      ∀ q : Port,
        let old := (s.ports.port[q]).alerts[8]
        let receives (a : Alert) (n : Nat) : Prop :=
          (t.ports.port[q]).alerts[8] = some ⟨a, min 255 ((old.map AlertEntry.count).getD 0 + n)⟩
        let routed : Prop := (s.ports.routing[8]).getLsbD q.val = true ∧ appliedFor none ≠ []
        (appliedFor (some q) = [] → ¬ routed → (t.ports.port[q]).alerts[8] = old) ∧
        (appliedFor (some q) ≠ [] → ¬ routed → ∃ a, tells (some q) a ∧ receives a 1) ∧
        (appliedFor (some q) = [] → routed → ∃ a, tells none a ∧ receives a 1) ∧
        (appliedFor (some q) ≠ [] → routed → ∃ a, (tells (some q) a ∨ tells none a) ∧ receives a 2) ∧
        ∀ k : Fin 22, k ≠ 8 → (t.ports.port[q]).alerts[k] = (s.ports.port[q]).alerts[k]

/-! ### Banks and masters (R17 to R30, R58, R161 to R166) -/

/-- SET_LEVEL whose channels no claim denies writes exactly the channels it names in the bank it names, with the fade and
curve it carries, removes their deferred entries, and changes nothing else, where no guard holds them (R20, R166). A
write of the program bank whose channels stand in shot is decided whole by their guards: refused under REFUSE, the
channels under DEFER queued or the whole turned away by a full queue, the others written at once, with GUARD_ALERT for
the lowest of them under ALERT (R162, R163, R165). -/
def Obligations.SetLevelWritesChannels : Prop :=
  ∀ (s : State) (p : Port) (tag b f1 f0 l1 l0 v1 v0 pres d1 d0 c : Byte) (role : BankRole) (first last : ChannelNo)
    (fade : Option Nat) (curve : Option Curve), s.quiet → s.ready p →
    bankRole? b = some role → be16 f1 f0 = first.val → be16 l1 l0 = last.val → first ≤ last → pres.toNat < 4 →
    (pres.getLsbD 0 = true → fade = some (be16 d1 d0)) → (pres.getLsbD 0 = false → d1 = 0 ∧ d0 = 0 ∧ fade = none) →
    (pres.getLsbD 1 = true → curve.isSome = true ∧ curve? c = curve) →
    (pres.getLsbD 1 = false → c = 0 ∧ curve = none) →
    (role = .preset → s.scene.inFlight = false) →
    (∀ n : ChannelNo, first ≤ n → n ≤ last → s.access.denied (some p) (.channel n) = false) →
    let request : Instr := .setLevel ⟨p, tag, [b, f1, f0, l1, l0, v1, v0, pres, d1, d0, c]⟩
    let answers (u : State) (code : ReplyCode) : Prop :=
      exec request s = .next (u.replied p 0x04 tag code s.ref.counter []).startNotices
    ((∀ n : ChannelNo, first ≤ n → n ≤ last →
        role = .program → s.shotGuard (.channel n) = none ∨ s.shotGuard (.channel n) = some .openMode) →
      ∃ t : State, exec request s = .next (t.replied p 0x04 tag .ok s.ref.counter []) ∧
        (∀ n : ChannelNo, ((t.scene.bank (s.scene.resolve role)).channels[n]) =
          if first ≤ n ∧ n ≤ last then
            { level := be16 v1 v0
              fade := fade.getD ((s.scene.bank (s.scene.resolve role)).channels[n]).fade
              curve := curve.getD ((s.scene.bank (s.scene.resolve role)).channels[n]).curve }
          else (s.scene.bank (s.scene.resolve role)).channels[n]) ∧
        t = { s with
          scene := s.scene.modBank (s.scene.resolve role) fun x =>
            { x with channels := (t.scene.bank (s.scene.resolve role)).channels }
          tally := { s.tally with queue := s.tally.queue.filter fun d => decide (¬ ∃ n : ChannelNo,
            first ≤ n ∧ n ≤ last ∧ d.write.target = .channel n ∧ d.write.bank = some (s.scene.resolve role)) } }) ∧
    (role = .program →
      s.guardsDecide (.port p) ((channelRange first last).map fun n =>
          .channel s.scene.program n (be16 v1 v0) fade curve)
        (answers s .guarded) (answers s .queueFull)
        fun t held => answers t (if held then .deferred else .ok) ∧
          (∀ n : ChannelNo, ((t.scene.bank s.scene.program).channels[n]) =
            if first ≤ n ∧ n ≤ last ∧ s.shotGuard (.channel n) ≠ some .defer then
              { level := be16 v1 v0
                fade := fade.getD ((s.scene.bank s.scene.program).channels[n]).fade
                curve := curve.getD ((s.scene.bank s.scene.program).channels[n]).curve }
            else (s.scene.bank s.scene.program).channels[n]) ∧
          ∀ (n : ChannelNo) (q : Port), first ≤ n → n ≤ last → s.shotGuard (.channel n) = some .alert →
            (∀ m : ChannelNo, first ≤ m → m < n → s.shotGuard (.channel m) ≠ some .alert) →
            (s.ports.routing[7]).getLsbD q.val = true →
            ((t.ports.port[q]).alerts[7]).map AlertEntry.alert =
              some (.guardAlert (.channel n) .alert (.port p) .bank s.ref.counter))

/-- SET_LEVELS_SHORT writes its pairs in order, each to the channel that the port's page and the short number give, with
the one fade it carries and the curves kept (R21, R138); SET_WINDOW writes the field groups it carries, whole (R18). A
write of the program bank with an item in shot is decided whole by the guards, pair by pair and field group by field
group (R162, R165). -/
def Obligations.ShortLevelsAndWindows : Prop :=
  ∀ (s : State) (p : Port) (tag b : Byte) (role : BankRole), s.quiet → s.ready p → bankRole? b = some role →
    (role = .preset → s.scene.inFlight = false) →
    (∀ (d1 d0 : Byte) (rest : List Byte) (pairs : List (ChannelNo × Nat)),
      shortPairs s.access.pages[p] rest = some pairs → pairs ≠ [] → rest.length ≤ 1017 →
      (∀ x ∈ pairs, s.access.denied (some p) (.channel x.1) = false) →
      let request : Instr := .setLevelsShort ⟨p, tag, b :: d1 :: d0 :: rest⟩
      let answers (u : State) (code : ReplyCode) : Prop :=
        exec request s = .next (u.replied p 0x05 tag code s.ref.counter []).startNotices
      ((∀ x ∈ pairs, role = .program →
          s.shotGuard (.channel x.1) = none ∨ s.shotGuard (.channel x.1) = some .openMode) →
        ∃ t : State, exec request s = .next (t.replied p 0x05 tag .ok s.ref.counter []) ∧
          t = { s with
            scene := s.scene.modBank (s.scene.resolve role) fun x =>
              pairs.foldl (fun y z => y.writeChannel z.1 z.2 (some (be16 d1 d0)) none) x
            tally := { s.tally with queue := s.tally.queue.filter fun d => decide (¬ ∃ x ∈ pairs,
              d.write.target = .channel x.1 ∧ d.write.bank = some (s.scene.resolve role)) } }) ∧
      (role = .program →
        s.guardsDecide (.port p) (pairs.map fun x => .channel s.scene.program x.1 x.2 (some (be16 d1 d0)) none)
          (answers s .guarded) (answers s .queueFull) fun t held => answers t (if held then .deferred else .ok))) ∧
    (∀ (m1 m0 : Byte) (w : WindowNo) (rest : List Byte) (groups : List (FieldGroup × List Byte))
      (values : List FieldValue),
      1 ≤ be16 m1 m0 → be16 m1 m0 < 512 → splitGroups (be16 m1 m0) FieldGroup.all rest = some groups →
      everyOk (groups.map fun g => fieldValue g.1 g.2) = .ok values →
      s.access.denied (some p) (.window w) = false →
      let request : Instr := .setWindow ⟨p, tag, b :: BitVec.ofNat 8 w.val :: m1 :: m0 :: rest⟩
      let answers (u : State) (code : ReplyCode) : Prop :=
        exec request s = .next (u.replied p 0x06 tag code s.ref.counter []).startNotices
      ((role = .program → s.shotGuard (.window w) = none ∨ s.shotGuard (.window w) = some .openMode) →
        exec request s =
          .next (({ s with
            scene := s.scene.modBank (s.scene.resolve role) fun x =>
              { x with windows := updAt x.windows w fun r => values.foldl WindowRec.write r }
            tally := { s.tally with queue := s.tally.queue.filter fun d => decide (¬ ∃ v ∈ values,
              d.write.target = DeferTarget.window w v.group ∧ d.write.bank = some (s.scene.resolve role)) } }).replied
            p 0x06 tag .ok s.ref.counter [])) ∧
      (role = .program →
        s.guardsDecide (.port p) (values.map fun v => .window s.scene.program w v)
          (answers s .guarded) (answers s .queueFull) fun t held => answers t (if held then .deferred else .ok)))

/-- The guard decides a master's write by its mode while the group is in shot (R58, R161 to R166): OPEN and out of shot
it is written, ALERT writes it and raises GUARD_ALERT, DEFER queues it or answers QUEUE_FULL, REFUSE refuses it. -/
def Obligations.GuardsDecideMasterWrites : Prop :=
  ∀ (s : State) (p : Port) (tag v1 v0 : Byte) (g : GroupNo), s.quiet → s.ready p →
    s.access.denied (some p) (.group g) = false →
    let c : Instr := .setMaster ⟨p, tag, [BitVec.ofNat 8 g.val, v1, v0]⟩
    let v := min 256 (be16 v1 v0)
    let entry : Deferred := { write := .master g v, origin := .port p }
    let wrote : State := { s with
      level := { s.level with masters := s.level.masters.set g v }
      tally := { s.tally with queue := s.tally.queue.filter fun d => decide (d.write.target ≠ .master g) } }
    (s.tally.inShotGroups.getLsbD g.val = false →
      exec c s = .next (wrote.replied p 0x08 tag .ok s.ref.counter [])) ∧
    (s.tally.inShotGroups.getLsbD g.val = true →
      (s.tally.groupGuards[g] = .openMode → exec c s = .next (wrote.replied p 0x08 tag .ok s.ref.counter [])) ∧
      (s.tally.groupGuards[g] = .alert → exec c s =
        .next ((wrote.raiseRouted (.guardAlert (.master g) .alert (.port p) .master s.ref.counter)).replied
          p 0x08 tag .ok s.ref.counter []).startNotices) ∧
      (s.tally.groupGuards[g] = .refuse → exec c s = .next (s.replied p 0x08 tag .guarded s.ref.counter [])) ∧
      (s.tally.groupGuards[g] = .defer →
        (∀ (l r : List Deferred) (d : Deferred), s.tally.queueLegal → s.tally.queue = l ++ d :: r →
          d.write.target = .master g → exec c s =
            .next (({ s with tally := { s.tally with queue := l ++ entry :: r } }).replied
              p 0x08 tag .deferred s.ref.counter [])) ∧
        ((∀ d ∈ s.tally.queue, d.write.target ≠ .master g) →
          (s.tally.queue.length ≤ 31 → exec c s =
            .next (({ s with tally := { s.tally with
              queue := s.tally.queue ++ [entry] } }).replied
              p 0x08 tag .deferred s.ref.counter [])) ∧
          (32 ≤ s.tally.queue.length → exec c s = .next (s.replied p 0x08 tag .queueFull s.ref.counter [])))))

/-- TAKE, as a request from any port and as a TAKE action of any stack, by the state of the transition context, with no
claim and no guard asked (R25). -/
def Obligations.TakeByContext : Prop :=
  (∀ (s : State) (p : Port) (tag : Byte) (n : SetNo), s.quiet → s.ready p →
    (s.scene.trans = .idle →
      exec (.take ⟨p, tag, [BitVec.ofNat 8 n.val]⟩) s =
        .next (({ s with scene := { s.scene with trans := .pending n } }).replied p 0x09 tag .ok s.ref.counter []) ∧
      exec (.take ⟨p, tag, []⟩) s =
        .next (({ s with scene := { s.scene with trans := .pending 0 } }).replied p 0x09 tag .ok s.ref.counter [])) ∧
    (∀ m : SetNo, s.scene.trans = .pending m →
      exec (.take ⟨p, tag, [BitVec.ofNat 8 n.val]⟩) s =
        .next (s.replied p 0x09 tag .doneEarly s.ref.counter []) ∧
      exec (.take ⟨p, tag, []⟩) s = .next (s.replied p 0x09 tag .doneEarly s.ref.counter [])) ∧
    (∀ r : Running, s.scene.trans = .running r →
      exec (.take ⟨p, tag, [BitVec.ofNat 8 n.val]⟩) s =
        .next (({ s with scene := { s.scene with trans := .running { r with hurry := true } } }).replied
          p 0x09 tag .doneEarly s.ref.counter []) ∧
      exec (.take ⟨p, tag, []⟩) s =
        .next (({ s with scene := { s.scene with trans := .running { r with hurry := true } } }).replied
          p 0x09 tag .doneEarly s.ref.counter []))) ∧
  (∀ (s : State) (p : Port) (tag b : Byte), s.quiet → s.ready p → 4 ≤ b.toNat →
    exec (.take ⟨p, tag, [b]⟩) s = .next (s.replied p 0x09 tag .range s.ref.counter [])) ∧
  (∀ (s : State) (k : StackNo) (cue place : Nat) (n : SetNo),
    s.act k cue place (.take n) = { s with scene := { s.scene with trans := (s.scene.trans.take n).2 } })

/-- COPY with no transition in flight makes the preset bank equal to the program bank and removes every deferred entry
that names it (R30, R166); SET_FILL writes the fill colour of its bank (R19); and with a transition in flight COPY and
every SET_LEVEL, SET_LEVELS_SHORT, SET_WINDOW and SET_FILL of the preset bank, of whatever range, pairs, field groups,
fade and curve, are answered BUSY and change nothing (R29). -/
def Obligations.CopyFillAndBusy : Prop :=
  (∀ (s : State) (p : Port) (tag : Byte), s.quiet → s.ready p → s.scene.inFlight = false →
    ∃ t : State, exec (.copy ⟨p, tag, []⟩) s = .next (t.replied p 0x0A tag .ok s.ref.counter []) ∧
      t.scene.bank .a = s.scene.bank s.scene.program ∧ t.scene.bank .b = s.scene.bank s.scene.program ∧
      t = { s with
        scene := { t.scene with program := s.scene.program, trans := s.scene.trans }
        tally := { s.tally with
          queue := s.tally.queue.filter fun d => decide (d.write.bank ≠ some s.scene.program.other) } }) ∧
  (∀ (s : State) (p : Port) (tag b red green blue : Byte) (role : BankRole), s.quiet → s.ready p →
    bankRole? b = some role → (role = .preset → s.scene.inFlight = false) →
    exec (.setFill ⟨p, tag, [b, red, green, blue]⟩) s =
      .next (({ s with scene := s.scene.modBank (s.scene.resolve role) fun x =>
        { x with fill := ⟨red.toNat, green.toNat, blue.toNat⟩ } }).replied p 0x07 tag .ok s.ref.counter [])) ∧
  (∀ (s : State) (p : Port) (tag b : Byte), s.quiet → s.ready p → bankRole? b = some .preset →
    s.scene.inFlight = true →
    let busy (c : Instr) (code : Byte) : Prop := exec c s = .next (s.replied p code tag .busy s.ref.counter [])
    busy (.copy ⟨p, tag, []⟩) 0x0A ∧
    (∀ red green blue : Byte, busy (.setFill ⟨p, tag, [b, red, green, blue]⟩) 0x07) ∧
    (∀ (f1 f0 l1 l0 v1 v0 pres d1 d0 c : Byte) (first last : ChannelNo),
      be16 f1 f0 = first.val → be16 l1 l0 = last.val → first ≤ last → pres.toNat < 4 →
      (pres.getLsbD 0 = false → d1 = 0 ∧ d0 = 0) → (pres.getLsbD 1 = true → (curve? c).isSome = true) →
      (pres.getLsbD 1 = false → c = 0) →
      (∀ n : ChannelNo, first ≤ n → n ≤ last → s.access.denied (some p) (.channel n) = false) →
      busy (.setLevel ⟨p, tag, [b, f1, f0, l1, l0, v1, v0, pres, d1, d0, c]⟩) 0x04) ∧
    (∀ (d1 d0 : Byte) (rest : List Byte) (pairs : List (ChannelNo × Nat)),
      shortPairs s.access.pages[p] rest = some pairs → pairs ≠ [] → rest.length ≤ 1017 →
      (∀ x ∈ pairs, s.access.denied (some p) (.channel x.1) = false) →
      busy (.setLevelsShort ⟨p, tag, b :: d1 :: d0 :: rest⟩) 0x05) ∧
    (∀ (m1 m0 : Byte) (w : WindowNo) (rest : List Byte) (groups : List (FieldGroup × List Byte))
      (values : List FieldValue),
      1 ≤ be16 m1 m0 → be16 m1 m0 < 512 → splitGroups (be16 m1 m0) FieldGroup.all rest = some groups →
      everyOk (groups.map fun g => fieldValue g.1 g.2) = .ok values →
      s.access.denied (some p) (.window w) = false →
      busy (.setWindow ⟨p, tag, b :: BitVec.ofNat 8 w.val :: m1 :: m0 :: rest⟩) 0x06))

/-! ### Cue Unit requests (R91 to R93, R99, R101, R110, R111, R116) -/

/-- GO by the stack's state, its level and the mask (R99), and at a takeover level by what the preemption stack holds
(R116). That the table of R116 decides also where the pending GO is already set is the model's reading (log entry 40).
-/
def Obligations.GoByState : Prop :=
  ∀ (s : State) (p : Port) (tag : Byte) (k : StackNo), s.quiet → s.ready p →
    s.access.denied (some p) (.stack k) = false →
    let c : Instr := .go ⟨p, tag, [BitVec.ofNat 8 k.val]⟩
    let r := s.cue.recs[k]
    let answers (u : State) (code : ReplyCode) : Prop := exec c s = .next (u.replied p 0x0E tag code s.ref.counter [])
    let waits := s.modStack k fun x => { x with state := .waiting 0 }
    let accepted := s.modStack k fun x => { x with state := .waiting 0, pendingGo := false }
    let pends := s.modStack k fun x => { x with pendingGo := true }
    (r.state = .ended → answers s .atEnd) ∧
    (∀ n i : Nat, r.state = .repeating n i → answers s .busy) ∧
    (r.level ≤ 4 →
      (r.state = .idle ∨ (∃ n, r.state = .waiting n) ∨ (∃ f g, r.state = .armed f g)) →
      (5 ≤ s.takeover.mask → answers s .suspended) ∧ (s.takeover.mask < 5 → answers waits .ok)) ∧
    (isTakeover r.level = true → (r.state = .idle ∨ ∃ n, r.state = .waiting n) →
      (s.takeover.onTop k = true → answers accepted .ok) ∧
      (s.takeover.onTop k = false → s.takeover.holds k = true → answers pends .pending) ∧
      (s.takeover.holds k = false → s.takeover.onTop k = false →
        ((∃ n, r.state = .waiting n) → answers s .ok) ∧
        (r.state = .idle → s.takeover.mask < r.level → answers accepted .ok) ∧
        (r.state = .idle → r.level ≤ s.takeover.mask → answers pends .pending)))

/-- ARM by the stack's state, with the grace it carries or the late grace default, and LATE for a target that is past;
a stack of a takeover level cannot be armed: FORMAT (R101). -/
def Obligations.ArmByState : Prop :=
  ∀ (s : State) (p : Port) (tag f3 f2 f1 f0 : Byte) (grace : Option (Byte × Byte)) (k : StackNo), s.quiet → s.ready p →
    s.access.denied (some p) (.stack k) = false →
    let carried : List Byte := match grace with
      | some g => [g.1, g.2]
      | none => []
    let c : Instr := .arm ⟨p, tag, BitVec.ofNat 8 k.val :: f3 :: f2 :: f1 :: f0 :: carried⟩
    let g := match grace with
      | some g => be16 g.1 g.2
      | none => s.cue.lateGrace
    (isTakeover (s.cue.recs[k]).level = true → exec c s = .next (s.replied p 0x0F tag .format s.ref.counter [])) ∧
    ((s.cue.recs[k]).level ≤ 4 →
      ((s.cue.recs[k]).state = .idle ∨ (∃ f' g', (s.cue.recs[k]).state = .armed f' g') →
        exec c s = .next ((s.modStack k fun r => { r with state := .armed (be32 f3 f2 f1 f0) g }).replied p 0x0F tag
          (if Frame.isPast (be32 f3 f2 f1 f0) s.ref.counter then .late else .ok) s.ref.counter [])) ∧
      ((s.cue.recs[k]).state = .ended → exec c s = .next (s.replied p 0x0F tag .atEnd s.ref.counter [])) ∧
      ((∃ n, (s.cue.recs[k]).state = .waiting n) ∨ (∃ n i, (s.cue.recs[k]).state = .repeating n i) →
        exec c s = .next (s.replied p 0x0F tag .busy s.ref.counter [])))

/-- HALT leaves a stack IDLE at its position, or at END, with every count, arm, loop context and waiting GO cleared, and
RESET_STACK does so at the first cue of its list (R110, R111); SET_STACK and the header form of STORE_CUE set the level
of a stack that does nothing and holds no level, and answer BUSY otherwise (R92). -/
def Obligations.StacksAreHaltedAndLevelled : Prop :=
  (∀ (s : State) (p : Port) (tag : Byte) (k : StackNo), s.quiet → s.ready p →
    s.access.denied (some p) (.stack k) = false →
    exec (.halt ⟨p, tag, [BitVec.ofNat 8 k.val]⟩) s =
      .next ((s.modStack k fun r => { r with
        state := if r.position = none then .ended else .idle
        loop := none
        chainedGo := false
        pendingGo := false }).replied p 0x10 tag .ok s.ref.counter []) ∧
    exec (.resetStack ⟨p, tag, [BitVec.ofNat 8 k.val]⟩) s =
      .next ((s.modStack k fun r => { r with
        position := s.cue.first k
        state := if s.cue.first k = none then .ended else .idle
        loop := none
        chainedGo := false
        pendingGo := false }).replied p 0x11 tag .ok s.ref.counter [])) ∧
  (∀ (s : State) (p : Port) (tag l : Byte) (k : StackNo), s.quiet → s.ready p →
    s.access.denied (some p) (.stack k) = false → 1 ≤ l.toNat → l.toNat ≤ 7 →
    let set : Instr := .setStack ⟨p, tag, [BitVec.ofNat 8 k.val, l]⟩
    let header : Instr := .storeCueHeader ⟨p, tag, [BitVec.ofNat 8 k.val, l]⟩
    let stored := s.modStack k fun r => { r with level := l.toNat }
    (s.restsAt k → s.takeover.holds k = false →
      exec set s = .next (stored.replied p 0x0D tag .ok s.ref.counter []) ∧
      exec header s = .next (stored.replied p 0x0B tag .ok s.ref.counter [])) ∧
    (¬ s.restsAt k ∨ s.takeover.holds k = true →
      exec set s = .next (s.replied p 0x0D tag .busy s.ref.counter []) ∧
      exec header s = .next (s.replied p 0x0B tag .busy s.ref.counter [])))

/-- STORE_CUE puts its record into the stack's list, replacing one of its number, leaves every other cue and the
stacks alone, and answers NO_SPACE with all 1024 records in use (R88, R91); DELETE_CUE removes a cue, halts its stack
at the next one when it stood on it, clears a loop context that the cue started, and answers NOT_FOUND for a cue that
does not stand (R93). -/
def Obligations.CuesAreStoredAndDeleted : Prop :=
  (∀ (s : State) (p : Port) (tag n1 n0 : Byte) (rest : List Byte) (k : StackNo) (body : CueBody), s.quiet → s.ready p →
    s.access.denied (some p) (.stack k) = false → 1 ≤ be16 n1 n0 → be16 n1 n0 ≤ 9999 → cueBody rest = .ok body →
    let c : Instr := .storeCue ⟨p, tag, BitVec.ofNat 8 k.val :: n1 :: n0 :: rest⟩
    let stored : Prop := ∃ t : State, exec c s = .next (t.replied p 0x0B tag .ok s.ref.counter []) ∧
      t = { s with cue := { s.cue with store := t.cue.store } } ∧
      t.cue.find k (be16 n1 n0) = some ⟨k, be16 n1 n0, body⟩ ∧
      ∀ (j : StackNo) (m : Nat), ¬ (j = k ∧ m = be16 n1 n0) → t.cue.find j m = s.cue.find j m
    (∀ old : Cue, s.cue.find k (be16 n1 n0) = some old →
      s.cue.usedSlots + body.actions.length ≤ 4096 + old.body.actions.length → stored) ∧
    (s.cue.find k (be16 n1 n0) = none →
      (s.cue.store.length < 1024 → s.cue.usedSlots + body.actions.length ≤ 4096 → stored) ∧
      (1024 ≤ s.cue.store.length → exec c s = .next (s.replied p 0x0B tag .noSpace s.ref.counter [])))) ∧
  (∀ (s : State) (p : Port) (tag n1 n0 : Byte) (k : StackNo), s.quiet → s.ready p →
    s.access.denied (some p) (.stack k) = false → 1 ≤ be16 n1 n0 → be16 n1 n0 ≤ 9999 →
    let n := be16 n1 n0
    let c : Instr := .deleteCue ⟨p, tag, [BitVec.ofNat 8 k.val, n1, n0]⟩
    let left : CueUnit := { s.cue with store := s.cue.store.filter fun q => decide (¬ (q.stack = k ∧ q.number = n)) }
    (s.cue.find k n = none → exec c s = .next (s.replied p 0x0C tag .notFound s.ref.counter [])) ∧
    ((s.cue.find k n).isSome = true →
      ((s.cue.recs[k]).position = some n →
        exec c s = .next ((({ s with cue := left }).modStack k fun r => { r with
          position := left.next k n
          state := if left.next k n = none then .ended else .idle
          loop := none
          chainedGo := false
          pendingGo := false }).replied p 0x0C tag .ok s.ref.counter [])) ∧
      (∀ x : LoopContext, (s.cue.recs[k]).position ≠ some n → (s.cue.recs[k]).loop = some x → x.startCue = n →
        exec c s = .next ((({ s with cue := left }).modStack k fun r => { r with loop := none }).replied
          p 0x0C tag .ok s.ref.counter [])) ∧
      ((s.cue.recs[k]).position ≠ some n → (∀ x : LoopContext, (s.cue.recs[k]).loop = some x → x.startCue ≠ n) →
        exec c s = .next (({ s with cue := left }).replied p 0x0C tag .ok s.ref.counter []))))

/-- The numbers of the cue store stay in order and within the pools, and every stack stands on a cue of its list or at
END (R88, R94, R95). -/
def Obligations.CueUnitStaysLegal : Prop :=
  ∀ s t : State, s.cue.storeLegal → s.cue.stacksLegal → step s = .next t → t.cue.storeLegal ∧ t.cue.stacksLegal

/-! ### Takeover and safety (R115, R120 to R132) -/

/-- RELEASE_LEVEL takes the level's entry and overrides away, sets the release fade, halts the stack that held the level
and raises TAKEOVER_CHANGE; without such a level it answers RANGE or NOT_FOUND (R125, R126). -/
def Obligations.LevelsAreReleased : Prop :=
  ∀ (s : State) (p : Port) (tag l f1 f0 : Byte), s.quiet → s.ready p →
    let c : Instr := .releaseLevel ⟨p, tag, [l, f1, f0]⟩
    (isTakeover l.toNat = false → (∀ k, PreEntry.level l.toNat k ∉ s.takeover.stack) →
      exec c s = .next (s.replied p 0x12 tag .range s.ref.counter [])) ∧
    (isTakeover l.toNat = true → (∀ k, PreEntry.level l.toNat k ∉ s.takeover.stack) →
      exec c s = .next (s.replied p 0x12 tag .notFound s.ref.counter [])) ∧
    (∀ k : StackNo, isTakeover l.toNat = true → s.takeover.holder l.toNat = some k →
      s.access.denied (some p) (.stack k) = false →
      let u : State := ({ s with
        takeover := { s.takeover with
          stack := s.takeover.stack.filter fun e => decide (∀ j, e ≠ PreEntry.level l.toNat j)
          overrides := s.takeover.overrides.filter fun e => decide (e.level ≠ l.toNat) }
        level := { s.level with releaseFade := be16 f1 f0 } }).modStack k fun r => { r with
          state := if r.position = none then .ended else .idle
          loop := none
          chainedGo := false
          pendingGo := false }
      exec c s = .next ((u.raiseRouted (.takeoverChange .released (some (l.toNat, k)) u.takeover.mask
        s.ref.counter)).replied p 0x12 tag .ok s.ref.counter []).startNotices)

/-- Safety comes into force and ends with the emergency input or the latch, whichever decides: SAFETY is pushed or
removed and SAFETY_CHANGE raised; a change while the other holds safety only records it (R128, R129). -/
def Obligations.SafetyFollowsInputAndLatch : Prop :=
  ∀ (s : State) (e l : Bool), s.quiet →
    let u : State := { s with takeover := { s.takeover with emergency := e, latch := l } }
    let result : State :=
      if (s.takeover.emergency || s.takeover.latch) = (e || l) then u
      else if e || l then
        ({ u with takeover := { u.takeover with stack := s.takeover.stack ++ [PreEntry.safety] } }).raiseRouted
          (.safetyChange true e l s.ref.counter)
      else
        ({ u with takeover := { u.takeover with
          stack := s.takeover.stack.filter fun x => decide (x ≠ PreEntry.safety) } }).raiseRouted
          (.safetyChange false e l s.ref.counter)
    (l = s.takeover.latch → exec (.emergencyInputChange e) s = .next result.startNotices) ∧
    (∀ (p : Port) (tag : Byte), s.ready p → s.access.roles[p] = .engineering → e = s.takeover.emergency →
      exec (.setSafety ⟨p, tag, [if l then 1 else 0]⟩) s =
        .next (result.replied p 0x24 tag .ok s.ref.counter []).startNotices)

/-- SHOW_RESET clears the transition, the release fade, the takeover levels and overrides, the deferred queue and
every contest, puts every stack at its first cue or END, and leaves the banks, the patch, the roles, the claims
themselves, the clock and safety as they stand (R132, R155, R180). TAKEOVER_CHANGE with cause RESET is raised once
where a takeover level was removed, with the mask after it (R132), and each port that waited for a claim receives
HANDOVER_TIMEOUT with cause RESET once for each of them (R155); no other alert is raised. Which of several handovers
is told last is free (log entry 8). -/
def Obligations.ShowResetClearsTheShow : Prop :=
  ∀ (s : State) (p : Port) (tag : Byte), s.quiet → s.ready p → s.access.roles[p] = .engineering →
    ∃ t : State, exec (.showReset ⟨p, tag, []⟩) s = .next t ∧
      t.scene = { s.scene with trans := .idle } ∧ t.level = { s.level with releaseFade := 0 } ∧
      t.takeover = { s.takeover with
        stack := s.takeover.stack.filter fun e => decide (e = PreEntry.safety)
        overrides := [] } ∧
      t.tally = { s.tally with queue := [] } ∧
      t.access = { s.access with claims := t.access.claims } ∧
      (∀ id : ClaimId, t.access.claims[id] = (s.access.claims[id]).map fun c => { c with contest := none }) ∧
      t.cue = { s.cue with recs := t.cue.recs } ∧
      (∀ k : StackNo, t.cue.recs[k] =
        { level := (s.cue.recs[k]).level
          position := s.cue.first k
          state := if s.cue.first k = none then .ended else .idle
          loop := none
          chainedGo := false
          pendingGo := false
          skipped := 0 }) ∧
      t.ref = s.ref ∧ t.wall = s.wall ∧ t.lines = s.lines ∧ t.image = s.image ∧
      t.ports.routing = s.ports.routing ∧
      (t.ports.port[p]).tx = some (.reply 0x27 tag .ok s.ref.counter []) ∧
      (s.preemptionLegal → t.takeover.mask = if s.takeover.inForce then 8 else 0) ∧
      ∀ q : Port,
        let waits : List ClaimId := (List.finRange 64).filter fun id =>
          decide (((s.access.claims[id]).bind Claim.contest).map Contest.waiting = some q)
        let receives (kind : Fin 22) (a : Alert) (n : Nat) : Prop := (t.ports.port[q]).alerts[kind] =
          some ⟨a, min 255 ((((s.ports.port[q]).alerts[kind]).map AlertEntry.count).getD 0 + n)⟩
        let keeps (kind : Fin 22) : Prop := (t.ports.port[q]).alerts[kind] = (s.ports.port[q]).alerts[kind]
        ((∃ e ∈ s.takeover.stack, e ≠ PreEntry.safety) → (s.ports.routing[13]).getLsbD q.val = true →
          receives 17 (.takeoverChange .reset none t.takeover.mask s.ref.counter) 1) ∧
        ((∀ e ∈ s.takeover.stack, e = PreEntry.safety) ∨ (s.ports.routing[13]).getLsbD q.val = false → keeps 17) ∧
        (waits ≠ [] → ∃ id ∈ waits, receives 16 (.handoverTimeout id .reset s.ref.counter) waits.length) ∧
        (waits = [] → keeps 16) ∧ ∀ k : Fin 22, k ≠ 16 → k ≠ 17 → keeps k

/-- The preemption stack stays in order: levels 5-8 rising strictly from bottom to top, each held by a stack of that
level, and SAFETY in it exactly while safety is in force (R115, R128). With it, every entry of the override table has
the level of an entry on the preemption stack (R120), where every REPEATING takeover stack holds its level and none is
ARMED, which every step keeps too. -/
def Obligations.PreemptionStaysInOrder : Prop :=
  ∀ s t : State, s.preemptionLegal → step s = .next t →
    t.preemptionLegal ∧ (s.overridesHeld → t.overridesHeld)

/-- The override table and the deferred queue stay within their sizes and never hold two entries of one key (R120,
R121, R164, R165). -/
def Obligations.TablesKeepOneEntryPerKey : Prop :=
  ∀ s t : State, s.takeover.overridesLegal → s.tally.queueLegal → step s = .next t →
    t.takeover.overridesLegal ∧ t.tally.queueLegal

/-! ### Roles, claims and handovers (R135 to R156) -/

/-- CLAIM takes the free entry of lowest id for the sending port, or answers CONFLICT where its range shares an item
with another port's claim or a CONTESTED one of its own, or NO_SPACE with 64 entries in use (R143). -/
def Obligations.ClaimsAreMade : Prop :=
  ∀ (s : State) (p : Port) (tag kind auto : Byte) (on : Bool) (rest : List Byte) (range : ClaimRange),
    s.quiet → s.ready p → flag? auto = some on → claimRange kind rest = .ok range →
    let c : Instr := .claim ⟨p, tag, kind :: auto :: rest⟩
    ((∃ (i : ClaimId) (d : Claim), s.access.claims[i] = some d ∧ d.range.shares range = true ∧
        (d.owner ≠ p ∨ d.contest.isSome = true)) →
      exec c s = .next (s.replied p 0x13 tag .conflict s.ref.counter [])) ∧
    ((∀ (i : ClaimId) (d : Claim), s.access.claims[i] = some d → d.range.shares range = true →
        d.owner = p ∧ d.contest = none) →
      ((∀ i : ClaimId, (s.access.claims[i]).isSome = true) →
        exec c s = .next (s.replied p 0x13 tag .noSpace s.ref.counter [])) ∧
      (∀ id : ClaimId, s.access.claims[id] = none → (∀ i : ClaimId, i < id → (s.access.claims[i]).isSome = true) →
        exec c s = .next ((s.setClaim id (some ⟨p, range, on, none⟩)).replied p 0x13 tag .ok s.ref.counter
          [BitVec.ofNat 8 id.val])))

/-- UNCLAIM and YIELD (R147, R150): RANGE, NOT_FOUND, DENIED; a HELD claim is freed by UNCLAIM and NOT_CONTESTED for
YIELD; a CONTESTED one moves to the waiting port, HELD, with HANDOVER_GRANTED raised to it. -/
def Obligations.ClaimsAreGivenUp : Prop :=
  ∀ (s : State) (p : Port) (tag : Byte), s.quiet → s.ready p →
    (∀ b : Byte, 64 ≤ b.toNat →
      exec (.unclaim ⟨p, tag, [b]⟩) s = .next (s.replied p 0x14 tag .range s.ref.counter []) ∧
      exec (.yieldClaim ⟨p, tag, [b]⟩) s = .next (s.replied p 0x16 tag .range s.ref.counter [])) ∧
    (∀ id : ClaimId, s.access.claims[id] = none →
      exec (.unclaim ⟨p, tag, [BitVec.ofNat 8 id.val]⟩) s =
        .next (s.replied p 0x14 tag .notFound s.ref.counter []) ∧
      exec (.yieldClaim ⟨p, tag, [BitVec.ofNat 8 id.val]⟩) s =
        .next (s.replied p 0x16 tag .notFound s.ref.counter [])) ∧
    (∀ (id : ClaimId) (c : Claim), s.access.claims[id] = some c →
      let unclaim : Instr := .unclaim ⟨p, tag, [BitVec.ofNat 8 id.val]⟩
      let yield : Instr := .yieldClaim ⟨p, tag, [BitVec.ofNat 8 id.val]⟩
      (c.owner ≠ p →
        exec unclaim s = .next (s.replied p 0x14 tag .denied s.ref.counter [BitVec.ofNat 8 id.val]) ∧
        exec yield s = .next (s.replied p 0x16 tag .denied s.ref.counter [BitVec.ofNat 8 id.val])) ∧
      (c.owner = p → c.contest = none →
        exec unclaim s = .next ((s.setClaim id none).replied p 0x14 tag .ok s.ref.counter []) ∧
        exec yield s = .next (s.replied p 0x16 tag .notContested s.ref.counter [])) ∧
      (∀ w : Contest, c.owner = p → c.contest = some w →
        let moved := s.setClaim id (some { c with owner := w.waiting, contest := none })
        exec unclaim s = .next ((moved.raiseTo (onlyPort w.waiting)
          (.handoverGranted id p .unclaimed s.ref.counter)).replied p 0x14 tag .ok s.ref.counter []).startNotices ∧
        exec yield s = .next ((moved.raiseTo (onlyPort w.waiting)
          (.handoverGranted id p .yielded s.ref.counter)).replied p 0x16 tag .ok s.ref.counter []).startNotices))

/-- ASK makes a HELD claim of another port CONTESTED until the expiry frame and tells its owner (R149), and DROP_CLAIM
frees any claim and tells the port that waited for it (R148); with their refusals. That an owner's ASK on its own
CONTESTED claim is answered OK is the model's reading (log entry 37). -/
def Obligations.ClaimsAreAskedForAndDropped : Prop :=
  ∀ (s : State) (p : Port) (tag : Byte), s.quiet → s.ready p →
    (∀ b : Byte, 64 ≤ b.toNat →
      exec (.ask ⟨p, tag, [b]⟩) s = .next (s.replied p 0x15 tag .range s.ref.counter []) ∧
      (s.access.roles[p] = .engineering →
        exec (.dropClaim ⟨p, tag, [b]⟩) s = .next (s.replied p 0x17 tag .range s.ref.counter []))) ∧
    (∀ id : ClaimId, s.access.claims[id] = none →
      exec (.ask ⟨p, tag, [BitVec.ofNat 8 id.val]⟩) s =
        .next (s.replied p 0x15 tag .notFound s.ref.counter []) ∧
      (s.access.roles[p] = .engineering →
        exec (.dropClaim ⟨p, tag, [BitVec.ofNat 8 id.val]⟩) s =
          .next (s.replied p 0x17 tag .notFound s.ref.counter []))) ∧
    (∀ (id : ClaimId) (c : Claim), s.access.claims[id] = some c →
      let ask : Instr := .ask ⟨p, tag, [BitVec.ofNat 8 id.val]⟩
      let drop : Instr := .dropClaim ⟨p, tag, [BitVec.ofNat 8 id.val]⟩
      let shared : Prop := ∃ (j : ClaimId) (d : Claim), j ≠ id ∧ s.access.claims[j] = some d ∧ d.owner = c.owner ∧
        d.range.shares c.range = true
      let expiry : Frame := s.ref.counter + BitVec.ofNat 32 s.access.timeout
      (c.owner = p → exec ask s = .next (s.replied p 0x15 tag .ok s.ref.counter [])) ∧
      (c.owner ≠ p → c.contest.isSome = true →
        exec ask s = .next (s.replied p 0x15 tag .contested s.ref.counter [])) ∧
      (c.owner ≠ p → c.contest = none → shared →
        exec ask s = .next (s.replied p 0x15 tag .conflict s.ref.counter [])) ∧
      (c.owner ≠ p → c.contest = none → ¬ shared →
        exec ask s = .next (((s.setClaim id (some { c with contest := some ⟨p, expiry⟩ })).raiseTo (onlyPort c.owner)
          (.handoverAsk id p expiry s.ref.counter)).replied p 0x15 tag .pending s.ref.counter
          (frameBytes expiry)).startNotices) ∧
      (s.access.roles[p] = .engineering → c.contest = none →
        exec drop s = .next ((s.setClaim id none).replied p 0x17 tag .ok s.ref.counter [])) ∧
      (∀ w : Contest, s.access.roles[p] = .engineering → c.contest = some w →
        exec drop s = .next (((s.setClaim id none).raiseTo (onlyPort w.waiting)
          (.handoverTimeout id .dropped s.ref.counter)).replied p 0x17 tag .ok s.ref.counter []).startNotices))

/-- Roles, pages and locks are stored at once: SET_ROLE but for the last ENGINEERING port, which is answered
LAST_ENGINEER, SET_PAGE for the sending port, LOCK for the lock it names (R137 to R139). -/
def Obligations.RolesPagesAndLocks : Prop :=
  ∀ (s : State) (p : Port) (tag : Byte), s.quiet → s.ready p →
    (∀ n : Fin 4, exec (.setPage ⟨p, tag, [BitVec.ofNat 8 n.val]⟩) s =
      .next (({ s with access := { s.access with pages := s.access.pages.set p n } }).replied
        p 0x19 tag .ok s.ref.counter [])) ∧
    (s.access.roles[p] = .engineering →
      (exec (.lock ⟨p, tag, [0]⟩) s =
        .next (({ s with access := { s.access with patchLock := true } }).replied p 0x25 tag .ok s.ref.counter [])) ∧
      (exec (.lock ⟨p, tag, [1]⟩) s =
        .next (({ s with access := { s.access with shotLock := true } }).replied p 0x25 tag .ok s.ref.counter [])) ∧
      (∀ q : Port, exec (.setRole ⟨p, tag, [BitVec.ofNat 8 q.val, 0]⟩) s =
        .next (({ s with access := { s.access with roles := s.access.roles.set q .engineering } }).replied
          p 0x18 tag .ok s.ref.counter [])) ∧
      (∀ q : Port, (∃ o : Port, o ≠ q ∧ s.access.roles[o] = .engineering) →
        exec (.setRole ⟨p, tag, [BitVec.ofNat 8 q.val, 1]⟩) s =
          .next (({ s with access := { s.access with roles := s.access.roles.set q .operator } }).replied
            p 0x18 tag .ok s.ref.counter [])) ∧
      ((∀ o : Port, o ≠ p → s.access.roles[o] = .operator) →
        exec (.setRole ⟨p, tag, [BitVec.ofNat 8 p.val, 1]⟩) s =
          .next (s.replied p 0x18 tag .lastEngineer s.ref.counter [])))

/-- Claims of two owners never share an item, a CONTESTED claim shares none with any claim, and one ENGINEERING port is
always left (R137, R143, R149). -/
def Obligations.AccessStaysLegal : Prop :=
  ∀ s t : State, s.access.claimsLegal → s.access.hasEngineer → step s = .next t →
    t.access.claimsLegal ∧ t.access.hasEngineer

/-! ### Configuration requests (R2, R36, R42, R45, R55, R59, R80, R101, R131, R154, R158, R160, R172, R179) -/

/-- SET_PATCH stores the field groups it carries unless the record would take a slot of another channel or one above its
line's slot count (R55), and SET_LINE stores the fields it carries unless the slot count would fall below a patched slot
(R80, R84): CONFLICT otherwise. -/
def Obligations.PatchAndLinesAreSet : Prop :=
  ∀ (s : State) (p : Port) (tag : Byte), s.quiet → s.ready p → s.access.roles[p] = .engineering →
    (∀ (c1 c0 mask : Byte) (n : ChannelNo) (rest : List Byte) (groups : List (Nat × List Byte))
      (writes : List (PatchRec → PatchRec)),
      s.access.patchLock = false → be16 c1 c0 = n.val → 1 ≤ mask.toNat → mask.toNat < 64 →
      splitPatch mask.toNat patchGroups rest = some groups →
      everyOk (groups.map fun g => patchWrite g.1 g.2) = .ok writes →
      let c : Instr := .setPatch ⟨p, tag, c1 :: c0 :: mask :: rest⟩
      let record : PatchRec := writes.foldl (fun x w => w x) s.level.patch[n]
      let conflict : Prop := ∃ l : LineNo, record.line = some l ∧
        ((s.lines[l]).slots < record.lastSlot ∨ ∃ m : ChannelNo, m ≠ n ∧ record.overlaps s.level.patch[m] = true)
      (¬ conflict → exec c s = .next (({ s with level := { s.level with
        patch := s.level.patch.set n record } }).replied p 0x1C tag .ok s.ref.counter [])) ∧
      (conflict → exec c s = .next (s.replied p 0x1C tag .conflict s.ref.counter []))) ∧
    (∀ (l : LineNo) (pres en s1 s0 b1 b0 : Byte) (enabled : Option Bool),
      1 ≤ pres.toNat → pres.toNat < 8 →
      (pres.getLsbD 0 = true → enabled.isSome = true ∧ flag? en = enabled) →
      (pres.getLsbD 0 = false → en = 0 ∧ enabled = none) →
      (pres.getLsbD 1 = false → s1 = 0 ∧ s0 = 0) → (pres.getLsbD 2 = false → b1 = 0 ∧ b0 = 0) →
      let c : Instr := .setLine ⟨p, tag, [BitVec.ofNat 8 l.val, pres, en, s1, s0, b1, b0]⟩
      let slots := max 24 (min 512 (be16 s1 s0))
      let conflict : Prop := pres.getLsbD 1 = true ∧
        ∃ n : ChannelNo, (s.level.patch[n]).line = some l ∧ slots < (s.level.patch[n]).lastSlot
      (¬ conflict → exec c s = .next ((s.modLine l fun x => { x with
        enabled := enabled.getD x.enabled
        slots := if pres.getLsbD 1 then slots else x.slots
        breakLen := if pres.getLsbD 2 then max 88 (min 1000 (be16 b1 b0)) else x.breakLen
        waiting := if enabled = some false then none else x.waiting }).replied p 0x1D tag .ok s.ref.counter [])) ∧
      (conflict → exec c s = .next (s.replied p 0x1D tag .conflict s.ref.counter [])))

/-- No two patched channels share a slot and no line falls short of its patch, after any step (R55, R80, R186). -/
def Obligations.PatchStaysLegal : Prop :=
  ∀ s t : State, s.patchLegal → step s = .next t → t.patchLegal

/-- SET_SOURCE, SET_TRANSITION and SET_WALL_LINK store the fields they carry, clamped, and keep the rest (R36, R42,
R45); SET_SHOT_MAP replaces one entry whole, and SET_GUARD gives its mode to every member of its set and to no other
(R158, R160). That SET_WALL_LINK's payload is the 13 bytes of its listed fields, where section 12.4 says 12, is the
model's reading (log entry 33). -/
def Obligations.WallAndShotAreConfigured : Prop :=
  (∀ (s : State) (p : Port) (tag : Byte), s.quiet → s.ready p → s.access.roles[p] = .engineering →
    (∀ (q : SourceNo) (h1 h0 : Byte), exec (.setSource ⟨p, tag, [BitVec.ofNat 8 q.val, h1, h0]⟩) s =
      .next (({ s with wall := { s.wall with sources := updAt s.wall.sources q fun x =>
        { x with holdLimit := min 255 (be16 h1 h0) } } }).replied p 0x1F tag .ok s.ref.counter [])) ∧
    (∀ (n : SetNo) (pres d1 d0 c : Byte) (curve : Option Curve), 1 ≤ pres.toNat → pres.toNat < 4 →
      (pres.getLsbD 0 = false → d1 = 0 ∧ d0 = 0) →
      (pres.getLsbD 1 = true → curve.isSome = true ∧ curve? c = curve) →
      (pres.getLsbD 1 = false → c = 0 ∧ curve = none) →
      exec (.setTransition ⟨p, tag, [BitVec.ofNat 8 n.val, pres, d1, d0, c]⟩) s =
        .next (({ s with wall := { s.wall with sets := updAt s.wall.sets n fun x =>
          { duration := if pres.getLsbD 0 then max 1 (min 255 (be16 d1 d0)) else x.duration
            curve := curve.getD x.curve } } }).replied p 0x20 tag .ok s.ref.counter [])) ∧
    (∀ (n : LinkNo) (pres x1 x0 y1 y0 w1 w0 h1 h0 b1 b0 en : Byte) (on : Option Bool),
      1 ≤ pres.toNat → pres.toNat < 8 →
      (pres.getLsbD 0 = false → x1 = 0 ∧ x0 = 0 ∧ y1 = 0 ∧ y0 = 0 ∧ w1 = 0 ∧ w0 = 0 ∧ h1 = 0 ∧ h0 = 0) →
      (pres.getLsbD 1 = false → b1 = 0 ∧ b0 = 0) →
      (pres.getLsbD 2 = true → on.isSome = true ∧ flag? en = on) → (pres.getLsbD 2 = false → en = 0 ∧ on = none) →
      let x := min 7679 (be16 x1 x0)
      let y := min 2159 (be16 y1 y0)
      exec (.setWallLink ⟨p, tag, [BitVec.ofNat 8 n.val, pres, x1, x0, y1, y0, w1, w0, h1, h0, b1, b0, en]⟩) s =
        .next (({ s with wall := { s.wall with links := updAt s.wall.links n fun k =>
          { x := if pres.getLsbD 0 then x else k.x
            y := if pres.getLsbD 0 then y else k.y
            width := if pres.getLsbD 0 then max 1 (min (7680 - x) (be16 w1 w0)) else k.width
            height := if pres.getLsbD 0 then max 1 (min (2160 - y) (be16 h1 h0)) else k.height
            brightness := if pres.getLsbD 1 then min 256 (be16 b1 b0) else k.brightness
            enabled := on.getD k.enabled } } }).replied p 0x1E tag .ok s.ref.counter []))) ∧
  (∀ (s : State) (p : Port) (tag : Byte), s.quiet → s.ready p → s.access.roles[p] = .engineering →
    s.access.shotLock = false →
    (∀ (i : TallyNo) (w3 w2 w1 w0 g1 g0 : Byte),
      exec (.setShotMap ⟨p, tag, [BitVec.ofNat 8 i.val, w3, w2, w1, w0, g1, g0]⟩) s =
        .next (({ s with tally := { s.tally with
          shotMap := s.tally.shotMap.set i ⟨be32 w3 w2 w1 w0, BitVec.ofNat 16 (be16 g1 g0)⟩ } }).replied
          p 0x1A tag .ok s.ref.counter [])) ∧
    (∀ (m3 m2 m1 m0 mode : Byte) (g : Guard), be32 m3 m2 m1 m0 ≠ 0 → guard? mode = some g →
      (∃ t : State, exec (.setGuard ⟨p, tag, [0, m3, m2, m1, m0, mode]⟩) s =
          .next (t.replied p 0x1B tag .ok s.ref.counter []) ∧
        t = { s with tally := { s.tally with windowGuards := t.tally.windowGuards } } ∧
        ∀ w : WindowNo, t.tally.windowGuards[w] =
          if (be32 m3 m2 m1 m0).getLsbD w.val then g else s.tally.windowGuards[w]) ∧
      (m3 = 0 → m2 = 0 → ∃ t : State, exec (.setGuard ⟨p, tag, [1, m3, m2, m1, m0, mode]⟩) s =
          .next (t.replied p 0x1B tag .ok s.ref.counter []) ∧
        t = { s with tally := { s.tally with groupGuards := t.tally.groupGuards } } ∧
        ∀ w : GroupNo, t.tally.groupGuards[w] =
          if (be32 m3 m2 m1 m0).getLsbD w.val then g else s.tally.groupGuards[w])))

/-- SET_TIMING stores the timing values it carries at once and makes each line rate that differs from its port's present
one pending on the reply (R2, R101, R131, R154, R172). -/
def Obligations.TimingIsSet : Prop :=
  ∀ (s : State) (p : Port) (tag pres r g1 g0 t1 t0 f1 f0 w1 w0 : Byte) (rest : List Byte)
    (coded : List (Except ReplyCode (Port × LineRate))) (rates : List (Port × LineRate)) (rate : Option Rate),
    s.quiet → s.ready p → s.access.roles[p] = .engineering → pres.toNat < 32 →
    portRates rest = some coded → everyOk coded = .ok rates → rates.length ≤ 4 → (pres ≠ 0 ∨ rates ≠ []) →
    (pres.getLsbD 0 = true → rate.isSome = true ∧ rate? r = rate) → (pres.getLsbD 0 = false → r = 0 ∧ rate = none) →
    (pres.getLsbD 1 = false → g1 = 0 ∧ g0 = 0) → (pres.getLsbD 2 = false → t1 = 0 ∧ t0 = 0) →
    (pres.getLsbD 3 = false → f1 = 0 ∧ f0 = 0) → (pres.getLsbD 4 = false → w1 = 0 ∧ w0 = 0) →
    ∃ t : State,
      exec (.setTiming ⟨p, tag, pres :: r :: g1 :: g0 :: t1 :: t0 :: f1 :: f0 :: w1 :: w0 :: rest⟩) s =
        .next (t.replied p 0x22 tag .ok s.ref.counter []) ∧
      t = { s with
        ref := { s.ref with rate := rate.getD s.ref.rate }
        cue := { s.cue with lateGrace := if pres.getLsbD 1 then be16 g1 g0 else s.cue.lateGrace }
        access := { s.access with
          timeout := if pres.getLsbD 2 then max 1 (be16 t1 t0) else s.access.timeout }
        takeover := { s.takeover with
          safetyFade := if pres.getLsbD 3 then be16 f1 f0 else s.takeover.safetyFade
          safetyWall := if pres.getLsbD 4 then min 256 (be16 w1 w0) else s.takeover.safetyWall }
        ports := { s.ports with port := t.ports.port } } ∧
      ∀ q : Port, t.ports.port[q] = { s.ports.port[q] with
        pendingRate := match (rates.filter fun x => decide (x.1 = q)).getLast? with
          | none => (s.ports.port[q]).pendingRate
          | some x => if x.2 = (s.ports.port[q]).rate then none else some ⟨x.2, some p⟩ }

/-- SET_FRAME loads the counter and moves nothing else of the clock (R10), SET_ROUTE replaces one routing set of the
sixteen kinds that have one (R179), and CLEAR_CLIP clears every clip flag and counter (R59). That the reply to
SET_FRAME carries the counter as it stood before is the model's reading (log entry 29). -/
def Obligations.FrameRoutesAndClipsAreSet : Prop :=
  ∀ (s : State) (p : Port) (tag : Byte), s.quiet → s.ready p →
    (s.access.roles[p] = .engineering → ∀ b3 b2 b1 b0 : Byte,
      exec (.setFrame ⟨p, tag, [b3, b2, b1, b0]⟩) s =
        .next ((s.modRef fun r => { r with counter := be32 b3 b2 b1 b0 }).replied p 0x23 tag .ok s.ref.counter [])) ∧
    (s.access.roles[p] = .engineering → ∀ (kind set : Byte), set.toNat < 16 →
      (∀ i : Fin 16, (i.val ≤ 12 ∧ kind.toNat = i.val ∨ 13 ≤ i.val ∧ kind.toNat = i.val + 4) →
        exec (.setRoute ⟨p, tag, [kind, set]⟩) s =
          .next (({ s with ports := { s.ports with
            routing := s.ports.routing.set i (BitVec.ofNat 4 set.toNat) } }).replied p 0x21 tag .ok s.ref.counter [])) ∧
      (13 ≤ kind.toNat ∧ kind.toNat ≤ 16 ∨ 20 ≤ kind.toNat →
        exec (.setRoute ⟨p, tag, [kind, set]⟩) s = .next (s.replied p 0x21 tag .format s.ref.counter []))) ∧
    exec (.clearClip ⟨p, tag, []⟩) s =
      .next (({ s with level := { s.level with clipFlags := 0, clipCounts := Vector.replicate 16 0 } }).replied
        p 0x03 tag .ok s.ref.counter [])

/-! ### READ and READ_ALERTS (R178, R184) -/

/-- A READ answers OK with its record, or NOT_FOUND where the record does not stand, and changes nothing but
READ(LINE), which re-arms the line's skip alert (R53, R76, R86, R112, R134, R156, R170, R178); READ_ALERTS returns the
sending port's alert set, empties it and then takes the push value it carries, FORMAT for one that is neither (R184).
NOT_FOUND for an item without an override entry is the model's reading (log entry 14), as are the layouts of the
replies (log entry 12) and of the alert details (log entry 13) that no table gives. -/
def Obligations.ReadsAnswer : Prop :=
  (∀ (s : State) (p : Port) (tag : Byte), s.quiet → s.ready p →
    let ok (u : State) (data : List Byte) : Host.Outcome State Fault Refusal :=
      .next (u.replied p 0x01 tag .ok s.ref.counter data)
    let missing : Host.Outcome State Fault Refusal := .next (s.replied p 0x01 tag .notFound s.ref.counter [])
    exec (.readStatus ⟨p, tag, [0, 0, 0]⟩) s = ok s s.status ∧
    (∀ (b i1 i0 : Byte) (role : BankRole) (n : ChannelNo), bankRole? b = some role → be16 i1 i0 = n.val →
      exec (.readChannel ⟨p, tag, [b, i1, i0]⟩) s = ok s (s.channelRecord role n)) ∧
    (∀ (b : Byte) (role : BankRole) (w : WindowNo), bankRole? b = some role →
      exec (.readWindow ⟨p, tag, [b, 0, BitVec.ofNat 8 w.val]⟩) s = ok s (s.windowRecord role w)) ∧
    (∀ id : ClaimId, exec (.readClaim ⟨p, tag, [0, 0, BitVec.ofNat 8 id.val]⟩) s =
      match s.access.claims[id] with
      | some c => ok s c.bytes
      | none => missing) ∧
    (∀ k : StackNo, exec (.readStack ⟨p, tag, [0, 0, BitVec.ofNat 8 k.val]⟩) s = ok s (s.stackRecord k)) ∧
    (∀ (k : StackNo) (n1 n0 : Byte), 1 ≤ be16 n1 n0 → be16 n1 n0 ≤ 9999 →
      exec (.readCue ⟨p, tag, [BitVec.ofNat 8 k.val, n1, n0]⟩) s =
        match s.cue.find k (be16 n1 n0) with
        | some q => ok s q.body.bytes
        | none => missing) ∧
    (∀ k : StackNo, exec (.readCue ⟨p, tag, [BitVec.ofNat 8 k.val, 0, 0]⟩) s = ok s (s.cue.listRecord k)) ∧
    (∀ l : LineNo, exec (.readLine ⟨p, tag, [0, 0, BitVec.ofNat 8 l.val]⟩) s =
      ok (s.modLine l fun x => { x with skipArmed := true }) (s.lines[l]).bytes) ∧
    (∀ q : SourceNo, exec (.readSource ⟨p, tag, [0, 0, BitVec.ofNat 8 q.val]⟩) s = ok s (s.wall.sources[q]).bytes) ∧
    (∀ n : Fin 32, exec (.readQueue ⟨p, tag, [0, 0, BitVec.ofNat 8 n.val]⟩) s =
      match s.tally.queue[n.val]? with
      | some d => ok s (BitVec.ofNat 8 s.tally.queue.length :: d.bytes)
      | none => missing) ∧
    (∀ (i1 i0 : Byte) (n : ChannelNo), be16 i1 i0 = n.val →
      exec (.readOverride ⟨p, tag, [0, i1, i0]⟩) s =
        if entriesOf s.takeover.overrides (.channel n) = [] then missing
        else ok s (overrideList s.takeover.overrides (entriesOf s.takeover.overrides (.channel n)))) ∧
    (∀ w : WindowNo, exec (.readOverride ⟨p, tag, [1, 0, BitVec.ofNat 8 w.val]⟩) s =
      (let l := FieldGroup.all.flatMap fun g => entriesOf s.takeover.overrides (.window w g)
      if l = [] then missing else ok s (overrideList s.takeover.overrides l)))) ∧
  (∀ (s : State) (p : Port) (tag : Byte), s.quiet → s.ready p →
    let read (push : Bool) : State :=
      s.modPort p fun x => { x with alerts := Vector.replicate 22 none, pushFlag := push }
    let data := (s.ports.port[p]).alertRecord
    exec (.readAlerts ⟨p, tag, []⟩) s =
      .next ((read (s.ports.port[p]).pushFlag).replied p 0x02 tag .ok s.ref.counter data) ∧
    exec (.readAlerts ⟨p, tag, [0]⟩) s = .next ((read false).replied p 0x02 tag .ok s.ref.counter data) ∧
    exec (.readAlerts ⟨p, tag, [1]⟩) s = .next ((read true).replied p 0x02 tag .ok s.ref.counter data) ∧
    (∀ b : Byte, 2 ≤ b.toNat →
      exec (.readAlerts ⟨p, tag, [b]⟩) s = .next (s.replied p 0x02 tag .format s.ref.counter [])))

/-! ### Image Store (R185 to R189) -/

/-- SAVE_IMAGE takes its snapshot and makes the image INVALID, or answers BUSY; the save then completes with
IMAGE_DONE, or fails with IMAGE_FAIL and leaves the image INVALID, for the port that asked (R187, R188). That the
store holds no image from the acceptance of a save to its completion is the model's reading (log entry 17). -/
def Obligations.SavesBeginAndEnd : Prop :=
  ∀ s : State, s.quiet →
    (∀ (p : Port) (tag : Byte), s.ready p → s.access.roles[p] = .engineering →
      (s.image.saving = none → exec (.saveImage ⟨p, tag, []⟩) s =
        .next (({ s with image := { s.image with
          stored := none, valid := false, saving := some ⟨p, s.ref.counter, s.snapshot⟩ } }).replied
          p 0x26 tag .ok s.ref.counter [])) ∧
      (s.image.saving.isSome = true →
        exec (.saveImage ⟨p, tag, []⟩) s = .next (s.replied p 0x26 tag .busy s.ref.counter []))) ∧
    (∀ v : Saving, s.image.saving = some v →
      exec .saveCompletion s = .next (({ s with image := { s.image with
        stored := some v.snapshot.image, valid := true, saving := none } }).raiseTo (onlyPort v.port)
        (.imageDone v.frame s.ref.counter)).startNotices ∧
      exec .saveVerifyFailure s = .next (({ s with image := { s.image with saving := none } }).raiseTo (onlyPort v.port)
        (.imageFail v.frame s.ref.counter .verify)).startNotices ∧
      exec .saveTimeout s = .next (({ s with image := { s.image with saving := none } }).raiseTo (onlyPort v.port)
        (.imageFail v.frame s.ref.counter .timeout)).startNotices)

/-- Every lawful body with its fields in their ranges, written as the image's bytes with its header and CRC-32, loads
back as that body (R185, R186). The layout of the body is the model's reading where no table gives it (log entry 18).
-/
def Obligations.SavedImagesLoad : Prop :=
  ∀ b : ImageBody, b.inRange → b.lawful = true → loadImage (some b.image) = some b

/-- HARD_RESET with a good image puts its body in force, with an ENGINEERING port made sure of; with none good the
part is as State.reset but for the stored image, and with the emergency input asserted SAFETY stands on the preemption
stack (R133, R135, R186). That the emergency input comes with the command, and that the queue of commands and the
model's counter of free orders stay with the stored image, is the model's choice (log entry 32), as is State.reset
itself (log entry 9); the layout of the image is its reading (log entry 18). -/
def Obligations.HardResetLoadsTheImage : Prop :=
  ∀ (s : State) (emergency : Bool),
    (∀ b : ImageBody, loadImage s.image.stored = some b →
      ∃ t : State, exec (.hardReset emergency) s = .next t ∧
        t.snapshot = { b with roles := withEngineer b.roles } ∧ t.access.hasEngineer ∧
        t.image = { stored := s.image.stored, valid := true, loaded := true, saving := none } ∧
        t.takeover.emergency = emergency ∧ t.takeover.latch = false ∧
        t.takeover.stack = (if emergency then [PreEntry.safety] else []) ∧ t.takeover.overrides = [] ∧
        t.ref.counter = 0 ∧ t.ref.lock = .free ∧ t.scene.trans = .idle ∧ t.tally.queue = [] ∧
        (∀ id : ClaimId, t.access.claims[id] = none)) ∧
    (loadImage s.image.stored = none →
      exec (.hardReset false) s = .next { State.reset with
        image := { stored := s.image.stored, valid := false, loaded := false, saving := none }
        choices := s.choices
        pending := s.pending } ∧
      ∃ t : State, exec (.hardReset true) s = .next t ∧
        t.takeover = { State.reset.takeover with emergency := true, stack := [PreEntry.safety] } ∧
        ((t.ports.port[0]).alerts[18]).isSome = true ∧ t.ref = State.reset.ref ∧ t.scene = State.reset.scene)

/-- The state after reset keeps all the laws that the steps keep; what State.reset is, a part with no good image and
its emergency input clear, is the model's choice (log entry 9). -/
def Obligations.ResetIsLawful : Prop :=
  State.reset.settled ∧ State.reset.ref.legal ∧ State.reset.patchLegal ∧ State.reset.cue.storeLegal ∧
    State.reset.cue.stacksLegal ∧ State.reset.preemptionLegal ∧ State.reset.overridesHeld ∧
    State.reset.takeover.overridesLegal ∧ State.reset.tally.queueLegal ∧ State.reset.access.claimsLegal ∧ State.reset.access.hasEngineer
end

