-- ==== Sys2Proof/Laws/State.lean ====
section
/-! SUPPORT. What each small update of the state leaves in each field, so that no proof unfolds an update: the field it
writes, and every field it keeps. -/

namespace Sys2Proof.Machine

variable (s : State)

/-! ### modRef -/

@[simp] theorem State.modRef_ref (f : RefUnit → RefUnit) : (s.modRef f).ref = f s.ref := rfl
@[simp] theorem State.modRef_scene (f : RefUnit → RefUnit) : (s.modRef f).scene = s.scene := rfl
@[simp] theorem State.modRef_wall (f : RefUnit → RefUnit) : (s.modRef f).wall = s.wall := rfl
@[simp] theorem State.modRef_level (f : RefUnit → RefUnit) : (s.modRef f).level = s.level := rfl
@[simp] theorem State.modRef_lines (f : RefUnit → RefUnit) : (s.modRef f).lines = s.lines := rfl
@[simp] theorem State.modRef_cue (f : RefUnit → RefUnit) : (s.modRef f).cue = s.cue := rfl
@[simp] theorem State.modRef_takeover (f : RefUnit → RefUnit) : (s.modRef f).takeover = s.takeover := rfl
@[simp] theorem State.modRef_access (f : RefUnit → RefUnit) : (s.modRef f).access = s.access := rfl
@[simp] theorem State.modRef_tally (f : RefUnit → RefUnit) : (s.modRef f).tally = s.tally := rfl
@[simp] theorem State.modRef_ports (f : RefUnit → RefUnit) : (s.modRef f).ports = s.ports := rfl
@[simp] theorem State.modRef_image (f : RefUnit → RefUnit) : (s.modRef f).image = s.image := rfl
@[simp] theorem State.modRef_choices (f : RefUnit → RefUnit) : (s.modRef f).choices = s.choices := rfl
@[simp] theorem State.modRef_pending (f : RefUnit → RefUnit) : (s.modRef f).pending = s.pending := rfl

/-! ### modStack -/

@[simp] theorem State.modStack_ref (k : StackNo) (f : StackRec → StackRec) : (s.modStack k f).ref = s.ref := rfl
@[simp] theorem State.modStack_scene (k : StackNo) (f : StackRec → StackRec) : (s.modStack k f).scene = s.scene := rfl
@[simp] theorem State.modStack_wall (k : StackNo) (f : StackRec → StackRec) : (s.modStack k f).wall = s.wall := rfl
@[simp] theorem State.modStack_level (k : StackNo) (f : StackRec → StackRec) : (s.modStack k f).level = s.level := rfl
@[simp] theorem State.modStack_lines (k : StackNo) (f : StackRec → StackRec) : (s.modStack k f).lines = s.lines := rfl
@[simp] theorem State.modStack_cue (k : StackNo) (f : StackRec → StackRec) :
    (s.modStack k f).cue = { s.cue with recs := updAt s.cue.recs k f } := rfl
@[simp] theorem State.modStack_takeover (k : StackNo) (f : StackRec → StackRec) :
    (s.modStack k f).takeover = s.takeover := rfl
@[simp] theorem State.modStack_access (k : StackNo) (f : StackRec → StackRec) :
    (s.modStack k f).access = s.access := rfl
@[simp] theorem State.modStack_tally (k : StackNo) (f : StackRec → StackRec) : (s.modStack k f).tally = s.tally := rfl
@[simp] theorem State.modStack_ports (k : StackNo) (f : StackRec → StackRec) : (s.modStack k f).ports = s.ports := rfl
@[simp] theorem State.modStack_image (k : StackNo) (f : StackRec → StackRec) : (s.modStack k f).image = s.image := rfl
@[simp] theorem State.modStack_choices (k : StackNo) (f : StackRec → StackRec) :
    (s.modStack k f).choices = s.choices := rfl
@[simp] theorem State.modStack_pending (k : StackNo) (f : StackRec → StackRec) :
    (s.modStack k f).pending = s.pending := rfl

/-! ### modPort -/

@[simp] theorem State.modPort_ref (p : Port) (f : PortState → PortState) : (s.modPort p f).ref = s.ref := rfl
@[simp] theorem State.modPort_scene (p : Port) (f : PortState → PortState) : (s.modPort p f).scene = s.scene := rfl
@[simp] theorem State.modPort_wall (p : Port) (f : PortState → PortState) : (s.modPort p f).wall = s.wall := rfl
@[simp] theorem State.modPort_level (p : Port) (f : PortState → PortState) : (s.modPort p f).level = s.level := rfl
@[simp] theorem State.modPort_lines (p : Port) (f : PortState → PortState) : (s.modPort p f).lines = s.lines := rfl
@[simp] theorem State.modPort_cue (p : Port) (f : PortState → PortState) : (s.modPort p f).cue = s.cue := rfl
@[simp] theorem State.modPort_takeover (p : Port) (f : PortState → PortState) :
    (s.modPort p f).takeover = s.takeover := rfl
@[simp] theorem State.modPort_access (p : Port) (f : PortState → PortState) : (s.modPort p f).access = s.access := rfl
@[simp] theorem State.modPort_tally (p : Port) (f : PortState → PortState) : (s.modPort p f).tally = s.tally := rfl
@[simp] theorem State.modPort_ports (p : Port) (f : PortState → PortState) :
    (s.modPort p f).ports = { s.ports with port := updAt s.ports.port p f } := rfl
@[simp] theorem State.modPort_image (p : Port) (f : PortState → PortState) : (s.modPort p f).image = s.image := rfl
@[simp] theorem State.modPort_choices (p : Port) (f : PortState → PortState) :
    (s.modPort p f).choices = s.choices := rfl
@[simp] theorem State.modPort_pending (p : Port) (f : PortState → PortState) :
    (s.modPort p f).pending = s.pending := rfl

/-! ### modLine -/

@[simp] theorem State.modLine_ref (l : LineNo) (f : Line → Line) : (s.modLine l f).ref = s.ref := rfl
@[simp] theorem State.modLine_scene (l : LineNo) (f : Line → Line) : (s.modLine l f).scene = s.scene := rfl
@[simp] theorem State.modLine_wall (l : LineNo) (f : Line → Line) : (s.modLine l f).wall = s.wall := rfl
@[simp] theorem State.modLine_level (l : LineNo) (f : Line → Line) : (s.modLine l f).level = s.level := rfl
@[simp] theorem State.modLine_lines (l : LineNo) (f : Line → Line) : (s.modLine l f).lines = updAt s.lines l f := rfl
@[simp] theorem State.modLine_cue (l : LineNo) (f : Line → Line) : (s.modLine l f).cue = s.cue := rfl
@[simp] theorem State.modLine_takeover (l : LineNo) (f : Line → Line) : (s.modLine l f).takeover = s.takeover := rfl
@[simp] theorem State.modLine_access (l : LineNo) (f : Line → Line) : (s.modLine l f).access = s.access := rfl
@[simp] theorem State.modLine_tally (l : LineNo) (f : Line → Line) : (s.modLine l f).tally = s.tally := rfl
@[simp] theorem State.modLine_ports (l : LineNo) (f : Line → Line) : (s.modLine l f).ports = s.ports := rfl
@[simp] theorem State.modLine_image (l : LineNo) (f : Line → Line) : (s.modLine l f).image = s.image := rfl
@[simp] theorem State.modLine_choices (l : LineNo) (f : Line → Line) : (s.modLine l f).choices = s.choices := rfl
@[simp] theorem State.modLine_pending (l : LineNo) (f : Line → Line) : (s.modLine l f).pending = s.pending := rfl

/-! ### setClaim -/

@[simp] theorem State.setClaim_ref (id : ClaimId) (c : Option Claim) : (s.setClaim id c).ref = s.ref := rfl
@[simp] theorem State.setClaim_scene (id : ClaimId) (c : Option Claim) : (s.setClaim id c).scene = s.scene := rfl
@[simp] theorem State.setClaim_wall (id : ClaimId) (c : Option Claim) : (s.setClaim id c).wall = s.wall := rfl
@[simp] theorem State.setClaim_level (id : ClaimId) (c : Option Claim) : (s.setClaim id c).level = s.level := rfl
@[simp] theorem State.setClaim_lines (id : ClaimId) (c : Option Claim) : (s.setClaim id c).lines = s.lines := rfl
@[simp] theorem State.setClaim_cue (id : ClaimId) (c : Option Claim) : (s.setClaim id c).cue = s.cue := rfl
@[simp] theorem State.setClaim_takeover (id : ClaimId) (c : Option Claim) :
    (s.setClaim id c).takeover = s.takeover := rfl
@[simp] theorem State.setClaim_access (id : ClaimId) (c : Option Claim) :
    (s.setClaim id c).access = { s.access with claims := s.access.claims.set id c } := rfl
@[simp] theorem State.setClaim_tally (id : ClaimId) (c : Option Claim) : (s.setClaim id c).tally = s.tally := rfl
@[simp] theorem State.setClaim_ports (id : ClaimId) (c : Option Claim) : (s.setClaim id c).ports = s.ports := rfl
@[simp] theorem State.setClaim_image (id : ClaimId) (c : Option Claim) : (s.setClaim id c).image = s.image := rfl
@[simp] theorem State.setClaim_choices (id : ClaimId) (c : Option Claim) :
    (s.setClaim id c).choices = s.choices := rfl
@[simp] theorem State.setClaim_pending (id : ClaimId) (c : Option Claim) :
    (s.setClaim id c).pending = s.pending := rfl

/-! ### setEntries -/

@[simp] theorem State.setEntries_ref (l : List PreEntry) : (s.setEntries l).ref = s.ref := rfl
@[simp] theorem State.setEntries_scene (l : List PreEntry) : (s.setEntries l).scene = s.scene := rfl
@[simp] theorem State.setEntries_wall (l : List PreEntry) : (s.setEntries l).wall = s.wall := rfl
@[simp] theorem State.setEntries_level (l : List PreEntry) : (s.setEntries l).level = s.level := rfl
@[simp] theorem State.setEntries_lines (l : List PreEntry) : (s.setEntries l).lines = s.lines := rfl
@[simp] theorem State.setEntries_cue (l : List PreEntry) : (s.setEntries l).cue = s.cue := rfl
@[simp] theorem State.setEntries_takeover (l : List PreEntry) :
    (s.setEntries l).takeover = { s.takeover with stack := l } := rfl
@[simp] theorem State.setEntries_access (l : List PreEntry) : (s.setEntries l).access = s.access := rfl
@[simp] theorem State.setEntries_tally (l : List PreEntry) : (s.setEntries l).tally = s.tally := rfl
@[simp] theorem State.setEntries_ports (l : List PreEntry) : (s.setEntries l).ports = s.ports := rfl
@[simp] theorem State.setEntries_image (l : List PreEntry) : (s.setEntries l).image = s.image := rfl
@[simp] theorem State.setEntries_choices (l : List PreEntry) : (s.setEntries l).choices = s.choices := rfl
@[simp] theorem State.setEntries_pending (l : List PreEntry) : (s.setEntries l).pending = s.pending := rfl

/-! ### setReceiver -/

@[simp] theorem State.setReceiver_ref (p : Port) (r : Receiver) : (s.setReceiver p r).ref = s.ref := rfl
@[simp] theorem State.setReceiver_scene (p : Port) (r : Receiver) : (s.setReceiver p r).scene = s.scene := rfl
@[simp] theorem State.setReceiver_wall (p : Port) (r : Receiver) : (s.setReceiver p r).wall = s.wall := rfl
@[simp] theorem State.setReceiver_level (p : Port) (r : Receiver) : (s.setReceiver p r).level = s.level := rfl
@[simp] theorem State.setReceiver_lines (p : Port) (r : Receiver) : (s.setReceiver p r).lines = s.lines := rfl
@[simp] theorem State.setReceiver_cue (p : Port) (r : Receiver) : (s.setReceiver p r).cue = s.cue := rfl
@[simp] theorem State.setReceiver_takeover (p : Port) (r : Receiver) :
    (s.setReceiver p r).takeover = s.takeover := rfl
@[simp] theorem State.setReceiver_access (p : Port) (r : Receiver) : (s.setReceiver p r).access = s.access := rfl
@[simp] theorem State.setReceiver_tally (p : Port) (r : Receiver) : (s.setReceiver p r).tally = s.tally := rfl
@[simp] theorem State.setReceiver_image (p : Port) (r : Receiver) : (s.setReceiver p r).image = s.image := rfl
@[simp] theorem State.setReceiver_choices (p : Port) (r : Receiver) : (s.setReceiver p r).choices = s.choices := rfl
@[simp] theorem State.setReceiver_pending (p : Port) (r : Receiver) : (s.setReceiver p r).pending = s.pending := rfl

/-! ### raiseTo -/

@[simp] theorem State.raiseTo_ref (d : PortSet) (a : Alert) : (s.raiseTo d a).ref = s.ref := rfl
@[simp] theorem State.raiseTo_scene (d : PortSet) (a : Alert) : (s.raiseTo d a).scene = s.scene := rfl
@[simp] theorem State.raiseTo_wall (d : PortSet) (a : Alert) : (s.raiseTo d a).wall = s.wall := rfl
@[simp] theorem State.raiseTo_level (d : PortSet) (a : Alert) : (s.raiseTo d a).level = s.level := rfl
@[simp] theorem State.raiseTo_lines (d : PortSet) (a : Alert) : (s.raiseTo d a).lines = s.lines := rfl
@[simp] theorem State.raiseTo_cue (d : PortSet) (a : Alert) : (s.raiseTo d a).cue = s.cue := rfl
@[simp] theorem State.raiseTo_takeover (d : PortSet) (a : Alert) : (s.raiseTo d a).takeover = s.takeover := rfl
@[simp] theorem State.raiseTo_access (d : PortSet) (a : Alert) : (s.raiseTo d a).access = s.access := rfl
@[simp] theorem State.raiseTo_tally (d : PortSet) (a : Alert) : (s.raiseTo d a).tally = s.tally := rfl
@[simp] theorem State.raiseTo_image (d : PortSet) (a : Alert) : (s.raiseTo d a).image = s.image := rfl
@[simp] theorem State.raiseTo_choices (d : PortSet) (a : Alert) : (s.raiseTo d a).choices = s.choices := rfl
@[simp] theorem State.raiseTo_pending (d : PortSet) (a : Alert) : (s.raiseTo d a).pending = s.pending := rfl

/-! ### raiseRouted -/

@[simp] theorem State.raiseRouted_ref (a : Alert) : (s.raiseRouted a).ref = s.ref := rfl
@[simp] theorem State.raiseRouted_scene (a : Alert) : (s.raiseRouted a).scene = s.scene := rfl
@[simp] theorem State.raiseRouted_wall (a : Alert) : (s.raiseRouted a).wall = s.wall := rfl
@[simp] theorem State.raiseRouted_level (a : Alert) : (s.raiseRouted a).level = s.level := rfl
@[simp] theorem State.raiseRouted_lines (a : Alert) : (s.raiseRouted a).lines = s.lines := rfl
@[simp] theorem State.raiseRouted_cue (a : Alert) : (s.raiseRouted a).cue = s.cue := rfl
@[simp] theorem State.raiseRouted_takeover (a : Alert) : (s.raiseRouted a).takeover = s.takeover := rfl
@[simp] theorem State.raiseRouted_access (a : Alert) : (s.raiseRouted a).access = s.access := rfl
@[simp] theorem State.raiseRouted_tally (a : Alert) : (s.raiseRouted a).tally = s.tally := rfl
@[simp] theorem State.raiseRouted_image (a : Alert) : (s.raiseRouted a).image = s.image := rfl
@[simp] theorem State.raiseRouted_choices (a : Alert) : (s.raiseRouted a).choices = s.choices := rfl
@[simp] theorem State.raiseRouted_pending (a : Alert) : (s.raiseRouted a).pending = s.pending := rfl

/-! ### raiseStack -/

@[simp] theorem State.raiseStack_ref (k : StackNo) (a : Alert) : (s.raiseStack k a).ref = s.ref := rfl
@[simp] theorem State.raiseStack_scene (k : StackNo) (a : Alert) : (s.raiseStack k a).scene = s.scene := rfl
@[simp] theorem State.raiseStack_wall (k : StackNo) (a : Alert) : (s.raiseStack k a).wall = s.wall := rfl
@[simp] theorem State.raiseStack_level (k : StackNo) (a : Alert) : (s.raiseStack k a).level = s.level := rfl
@[simp] theorem State.raiseStack_lines (k : StackNo) (a : Alert) : (s.raiseStack k a).lines = s.lines := rfl
@[simp] theorem State.raiseStack_cue (k : StackNo) (a : Alert) : (s.raiseStack k a).cue = s.cue := rfl
@[simp] theorem State.raiseStack_takeover (k : StackNo) (a : Alert) : (s.raiseStack k a).takeover = s.takeover := rfl
@[simp] theorem State.raiseStack_access (k : StackNo) (a : Alert) : (s.raiseStack k a).access = s.access := rfl
@[simp] theorem State.raiseStack_tally (k : StackNo) (a : Alert) : (s.raiseStack k a).tally = s.tally := rfl
@[simp] theorem State.raiseStack_image (k : StackNo) (a : Alert) : (s.raiseStack k a).image = s.image := rfl
@[simp] theorem State.raiseStack_choices (k : StackNo) (a : Alert) : (s.raiseStack k a).choices = s.choices := rfl
@[simp] theorem State.raiseStack_pending (k : StackNo) (a : Alert) : (s.raiseStack k a).pending = s.pending := rfl

/-! ### raiseTakeover -/

@[simp] theorem State.raiseTakeover_ref (c : TakeoverCause) (h : Option (Nat × StackNo)) :
    (s.raiseTakeover c h).ref = s.ref := rfl
@[simp] theorem State.raiseTakeover_scene (c : TakeoverCause) (h : Option (Nat × StackNo)) :
    (s.raiseTakeover c h).scene = s.scene := rfl
@[simp] theorem State.raiseTakeover_wall (c : TakeoverCause) (h : Option (Nat × StackNo)) :
    (s.raiseTakeover c h).wall = s.wall := rfl
@[simp] theorem State.raiseTakeover_level (c : TakeoverCause) (h : Option (Nat × StackNo)) :
    (s.raiseTakeover c h).level = s.level := rfl
@[simp] theorem State.raiseTakeover_lines (c : TakeoverCause) (h : Option (Nat × StackNo)) :
    (s.raiseTakeover c h).lines = s.lines := rfl
@[simp] theorem State.raiseTakeover_cue (c : TakeoverCause) (h : Option (Nat × StackNo)) :
    (s.raiseTakeover c h).cue = s.cue := rfl
@[simp] theorem State.raiseTakeover_takeover (c : TakeoverCause) (h : Option (Nat × StackNo)) :
    (s.raiseTakeover c h).takeover = s.takeover := rfl
@[simp] theorem State.raiseTakeover_access (c : TakeoverCause) (h : Option (Nat × StackNo)) :
    (s.raiseTakeover c h).access = s.access := rfl
@[simp] theorem State.raiseTakeover_tally (c : TakeoverCause) (h : Option (Nat × StackNo)) :
    (s.raiseTakeover c h).tally = s.tally := rfl
@[simp] theorem State.raiseTakeover_image (c : TakeoverCause) (h : Option (Nat × StackNo)) :
    (s.raiseTakeover c h).image = s.image := rfl
@[simp] theorem State.raiseTakeover_choices (c : TakeoverCause) (h : Option (Nat × StackNo)) :
    (s.raiseTakeover c h).choices = s.choices := rfl
@[simp] theorem State.raiseTakeover_pending (c : TakeoverCause) (h : Option (Nat × StackNo)) :
    (s.raiseTakeover c h).pending = s.pending := rfl

/-! ### raiseSafety -/

@[simp] theorem State.raiseSafety_ref : (s.raiseSafety).ref = s.ref := rfl
@[simp] theorem State.raiseSafety_scene : (s.raiseSafety).scene = s.scene := rfl
@[simp] theorem State.raiseSafety_wall : (s.raiseSafety).wall = s.wall := rfl
@[simp] theorem State.raiseSafety_level : (s.raiseSafety).level = s.level := rfl
@[simp] theorem State.raiseSafety_lines : (s.raiseSafety).lines = s.lines := rfl
@[simp] theorem State.raiseSafety_cue : (s.raiseSafety).cue = s.cue := rfl
@[simp] theorem State.raiseSafety_takeover : (s.raiseSafety).takeover = s.takeover := rfl
@[simp] theorem State.raiseSafety_access : (s.raiseSafety).access = s.access := rfl
@[simp] theorem State.raiseSafety_tally : (s.raiseSafety).tally = s.tally := rfl
@[simp] theorem State.raiseSafety_image : (s.raiseSafety).image = s.image := rfl
@[simp] theorem State.raiseSafety_choices : (s.raiseSafety).choices = s.choices := rfl
@[simp] theorem State.raiseSafety_pending : (s.raiseSafety).pending = s.pending := rfl

/-! ### startNotices -/

@[simp] theorem State.startNotices_ref : (s.startNotices).ref = s.ref := rfl
@[simp] theorem State.startNotices_scene : (s.startNotices).scene = s.scene := rfl
@[simp] theorem State.startNotices_wall : (s.startNotices).wall = s.wall := rfl
@[simp] theorem State.startNotices_level : (s.startNotices).level = s.level := rfl
@[simp] theorem State.startNotices_lines : (s.startNotices).lines = s.lines := rfl
@[simp] theorem State.startNotices_cue : (s.startNotices).cue = s.cue := rfl
@[simp] theorem State.startNotices_takeover : (s.startNotices).takeover = s.takeover := rfl
@[simp] theorem State.startNotices_access : (s.startNotices).access = s.access := rfl
@[simp] theorem State.startNotices_tally : (s.startNotices).tally = s.tally := rfl
@[simp] theorem State.startNotices_image : (s.startNotices).image = s.image := rfl
@[simp] theorem State.startNotices_choices : (s.startNotices).choices = s.choices := rfl
@[simp] theorem State.startNotices_pending : (s.startNotices).pending = s.pending := rfl

/-! ### replied -/

@[simp] theorem State.replied_ref (p : Port) (code tag : Byte) (result : ReplyCode) (now : Frame) (data : List Byte) :
    (s.replied p code tag result now data).ref = s.ref := rfl
@[simp] theorem State.replied_scene (p : Port) (code tag : Byte) (result : ReplyCode) (now : Frame) (data : List Byte) :
    (s.replied p code tag result now data).scene = s.scene := rfl
@[simp] theorem State.replied_wall (p : Port) (code tag : Byte) (result : ReplyCode) (now : Frame) (data : List Byte) :
    (s.replied p code tag result now data).wall = s.wall := rfl
@[simp] theorem State.replied_level (p : Port) (code tag : Byte) (result : ReplyCode) (now : Frame) (data : List Byte) :
    (s.replied p code tag result now data).level = s.level := rfl
@[simp] theorem State.replied_lines (p : Port) (code tag : Byte) (result : ReplyCode) (now : Frame) (data : List Byte) :
    (s.replied p code tag result now data).lines = s.lines := rfl
@[simp] theorem State.replied_cue (p : Port) (code tag : Byte) (result : ReplyCode) (now : Frame) (data : List Byte) :
    (s.replied p code tag result now data).cue = s.cue := rfl
@[simp] theorem State.replied_takeover (p : Port) (code tag : Byte) (result : ReplyCode) (now : Frame) (data : List Byte) :
    (s.replied p code tag result now data).takeover = s.takeover := rfl
@[simp] theorem State.replied_access (p : Port) (code tag : Byte) (result : ReplyCode) (now : Frame) (data : List Byte) :
    (s.replied p code tag result now data).access = s.access := rfl
@[simp] theorem State.replied_tally (p : Port) (code tag : Byte) (result : ReplyCode) (now : Frame) (data : List Byte) :
    (s.replied p code tag result now data).tally = s.tally := rfl
@[simp] theorem State.replied_image (p : Port) (code tag : Byte) (result : ReplyCode) (now : Frame) (data : List Byte) :
    (s.replied p code tag result now data).image = s.image := rfl
@[simp] theorem State.replied_choices (p : Port) (code tag : Byte) (result : ReplyCode) (now : Frame) (data : List Byte) :
    (s.replied p code tag result now data).choices = s.choices := rfl
@[simp] theorem State.replied_pending (p : Port) (code tag : Byte) (result : ReplyCode) (now : Frame) (data : List Byte) :
    (s.replied p code tag result now data).pending = s.pending := rfl

/-! ### takeSet -/

@[simp] theorem State.takeSet_ref (n : SetNo) : (s.takeSet n).ref = s.ref := rfl
@[simp] theorem State.takeSet_scene (n : SetNo) :
    (s.takeSet n).scene = { s.scene with trans := (s.scene.trans.take n).2 } := rfl
@[simp] theorem State.takeSet_wall (n : SetNo) : (s.takeSet n).wall = s.wall := rfl
@[simp] theorem State.takeSet_level (n : SetNo) : (s.takeSet n).level = s.level := rfl
@[simp] theorem State.takeSet_lines (n : SetNo) : (s.takeSet n).lines = s.lines := rfl
@[simp] theorem State.takeSet_cue (n : SetNo) : (s.takeSet n).cue = s.cue := rfl
@[simp] theorem State.takeSet_takeover (n : SetNo) : (s.takeSet n).takeover = s.takeover := rfl
@[simp] theorem State.takeSet_access (n : SetNo) : (s.takeSet n).access = s.access := rfl
@[simp] theorem State.takeSet_tally (n : SetNo) : (s.takeSet n).tally = s.tally := rfl
@[simp] theorem State.takeSet_ports (n : SetNo) : (s.takeSet n).ports = s.ports := rfl
@[simp] theorem State.takeSet_image (n : SetNo) : (s.takeSet n).image = s.image := rfl
@[simp] theorem State.takeSet_choices (n : SetNo) : (s.takeSet n).choices = s.choices := rfl
@[simp] theorem State.takeSet_pending (n : SetNo) : (s.takeSet n).pending = s.pending := rfl

/-! ### setTiming -/

@[simp] theorem State.setTiming_scene (pres : Byte) (rate : Option Rate) (a b c d : Nat) :
    (s.setTiming pres rate a b c d).scene = s.scene := rfl
@[simp] theorem State.setTiming_wall (pres : Byte) (rate : Option Rate) (a b c d : Nat) :
    (s.setTiming pres rate a b c d).wall = s.wall := rfl
@[simp] theorem State.setTiming_level (pres : Byte) (rate : Option Rate) (a b c d : Nat) :
    (s.setTiming pres rate a b c d).level = s.level := rfl
@[simp] theorem State.setTiming_lines (pres : Byte) (rate : Option Rate) (a b c d : Nat) :
    (s.setTiming pres rate a b c d).lines = s.lines := rfl
@[simp] theorem State.setTiming_tally (pres : Byte) (rate : Option Rate) (a b c d : Nat) :
    (s.setTiming pres rate a b c d).tally = s.tally := rfl
@[simp] theorem State.setTiming_ports (pres : Byte) (rate : Option Rate) (a b c d : Nat) :
    (s.setTiming pres rate a b c d).ports = s.ports := rfl
@[simp] theorem State.setTiming_image (pres : Byte) (rate : Option Rate) (a b c d : Nat) :
    (s.setTiming pres rate a b c d).image = s.image := rfl
@[simp] theorem State.setTiming_choices (pres : Byte) (rate : Option Rate) (a b c d : Nat) :
    (s.setTiming pres rate a b c d).choices = s.choices := rfl
@[simp] theorem State.setTiming_pending (pres : Byte) (rate : Option Rate) (a b c d : Nat) :
    (s.setTiming pres rate a b c d).pending = s.pending := rfl

end Sys2Proof.Machine
end

