-- ==== Sys2Proof/Laws/Alerts.lean ====
section
/-! SUPPORT. What raising an alert can do, said once: it changes the control ports' alert sets and owed notices, and the
model's choice counter where an order is drawn, and nothing else. -/

namespace Sys2Proof.Machine

/-! ### Tables and ports -/

theorem updAt_id {n : Nat} {α : Type} (v : Vector α n) (i : Fin n) (f : α → α) (h : f v[i] = v[i]) :
    updAt v i f = v := by
  apply Vector.ext
  intro j hj
  by_cases e : i.val = j
  · subst e; simpa [updAt_getElem] using h
  · simp [updAt_getElem, e]

theorem updAt_updAt {n : Nat} {α : Type} (v : Vector α n) (i : Fin n) (f g : α → α) :
    updAt (updAt v i f) i g = updAt v i fun x => g (f x) := by
  apply Vector.ext
  intro j hj
  by_cases e : i.val = j <;> simp [updAt_getElem, e]

theorem State.modPort_at (s : State) (p q : Port) (f : PortState → PortState) :
    (s.modPort p f).ports.port[q] = if p = q then f s.ports.port[p] else s.ports.port[q] := by
  simp [State.modPort, Fin.ext_iff]

theorem State.modPort_id (s : State) (p : Port) (f : PortState → PortState) (h : f s.ports.port[p] = s.ports.port[p]) :
    s.modPort p f = s := by
  simp only [State.modPort, updAt_id _ _ _ h]

theorem State.modPort_modPort (s : State) (p : Port) (f g : PortState → PortState) :
    (s.modPort p f).modPort p g = s.modPort p fun x => g (f x) := by
  simp only [State.modPort, updAt_updAt]

theorem State.modStack_at (s : State) (k j : StackNo) (f : StackRec → StackRec) :
    (s.modStack k f).cue.recs[j] = if k = j then f s.cue.recs[k] else s.cue.recs[j] := by
  simp [State.modStack, Fin.ext_iff]

theorem State.modLine_at (s : State) (l m : LineNo) (f : Line → Line) :
    (s.modLine l f).lines[m] = if l = m then f s.lines[l] else s.lines[m] := by
  simp [State.modLine, Fin.ext_iff]

/-! ### One alert -/

/-- What a port keeps and changes when it receives an alert. -/
theorem PortState.receive_keeps (p : PortState) (a : Alert) :
    (p.receive a).rate = p.rate ∧ (p.receive a).pendingRate = p.pendingRate ∧ (p.receive a).receiver = p.receiver ∧
      (p.receive a).queue = p.queue ∧ (p.receive a).overruns = p.overruns ∧ (p.receive a).tx = p.tx ∧
      (p.receive a).pushFlag = p.pushFlag ∧ (p.receive a).errors = p.errors :=
  ⟨rfl, rfl, rfl, rfl, rfl, rfl, rfl, rfl⟩

theorem State.raiseTo_at (s : State) (d : PortSet) (a : Alert) (q : Port) :
    (s.raiseTo d a).ports.port[q] =
      if d.getLsbD q.val then (s.ports.port[q]).receive a else s.ports.port[q] := by
  simp [State.raiseTo]

theorem State.raiseTo_routing (s : State) (d : PortSet) (a : Alert) :
    (s.raiseTo d a).ports.routing = s.ports.routing := rfl

/-! ### Alerts raised together -/

/-- Anything that one raised alert and a drawn order keep, alerts raised together keep. -/
theorem State.raiseTogether_keeps {β : Type} (f : State → β) (one : ∀ s d a, f (State.raiseTo s d a) = f s)
    (drawn : ∀ (s : State) n, f { s with choices := n } = f s) (s : State) (l : List (PortSet × Alert)) :
    f (s.raiseTogether l) = f s := by
  have fold : ∀ (l : List (PortSet × Alert)) (s : State),
      f (l.foldl (fun s x => s.raiseTo x.1 x.2) s) = f s := by
    intro l
    induction l with
    | nil => intro s; rfl
    | cons x l ih => intro s; rw [List.foldl_cons, ih, one]
  match l with
  | [] => rfl
  | [x] => exact one s x.1 x.2
  | x :: y :: l =>
    show f (List.foldl _ _ _) = _
    rw [fold, drawn]

@[simp] theorem State.raiseTogether_ref (s : State) (l : List (PortSet × Alert)) : (s.raiseTogether l).ref = s.ref :=
  s.raiseTogether_keeps State.ref (fun _ _ _ => rfl) (fun _ _ => rfl) l
@[simp] theorem State.raiseTogether_scene (s : State) (l : List (PortSet × Alert)) :
    (s.raiseTogether l).scene = s.scene :=
  s.raiseTogether_keeps State.scene (fun _ _ _ => rfl) (fun _ _ => rfl) l
@[simp] theorem State.raiseTogether_wall (s : State) (l : List (PortSet × Alert)) :
    (s.raiseTogether l).wall = s.wall :=
  s.raiseTogether_keeps State.wall (fun _ _ _ => rfl) (fun _ _ => rfl) l
@[simp] theorem State.raiseTogether_level (s : State) (l : List (PortSet × Alert)) :
    (s.raiseTogether l).level = s.level :=
  s.raiseTogether_keeps State.level (fun _ _ _ => rfl) (fun _ _ => rfl) l
@[simp] theorem State.raiseTogether_lines (s : State) (l : List (PortSet × Alert)) :
    (s.raiseTogether l).lines = s.lines :=
  s.raiseTogether_keeps State.lines (fun _ _ _ => rfl) (fun _ _ => rfl) l
@[simp] theorem State.raiseTogether_cue (s : State) (l : List (PortSet × Alert)) : (s.raiseTogether l).cue = s.cue :=
  s.raiseTogether_keeps State.cue (fun _ _ _ => rfl) (fun _ _ => rfl) l
@[simp] theorem State.raiseTogether_takeover (s : State) (l : List (PortSet × Alert)) :
    (s.raiseTogether l).takeover = s.takeover :=
  s.raiseTogether_keeps State.takeover (fun _ _ _ => rfl) (fun _ _ => rfl) l
@[simp] theorem State.raiseTogether_access (s : State) (l : List (PortSet × Alert)) :
    (s.raiseTogether l).access = s.access :=
  s.raiseTogether_keeps State.access (fun _ _ _ => rfl) (fun _ _ => rfl) l
@[simp] theorem State.raiseTogether_tally (s : State) (l : List (PortSet × Alert)) :
    (s.raiseTogether l).tally = s.tally :=
  s.raiseTogether_keeps State.tally (fun _ _ _ => rfl) (fun _ _ => rfl) l
@[simp] theorem State.raiseTogether_image (s : State) (l : List (PortSet × Alert)) :
    (s.raiseTogether l).image = s.image :=
  s.raiseTogether_keeps State.image (fun _ _ _ => rfl) (fun _ _ => rfl) l
@[simp] theorem State.raiseTogether_pending (s : State) (l : List (PortSet × Alert)) :
    (s.raiseTogether l).pending = s.pending :=
  s.raiseTogether_keeps State.pending (fun _ _ _ => rfl) (fun _ _ => rfl) l

/-! ### Notices -/

theorem State.startNotices_at (s : State) (q : Port) :
    s.startNotices.ports.port[q] = (s.ports.port[q]).startNotice s.ref.counter := by
  simp [State.startNotices]

/-- In a quiet state no notice waits to start. -/
theorem State.startNotices_of_quiet {s : State} (h : s.quiet) : s.startNotices = s := by
  have same : mapTab (fun p : PortState => p.startNotice s.ref.counter) s.ports.port = s.ports.port := by
    apply Vector.ext
    intro j hj
    have := h ⟨j, hj⟩
    simp only [Fin.getElem_fin] at this
    cases tx : (s.ports.port[j]).tx with
    | none => simp [PortState.startNotice, this tx]
    | some f => simp [PortState.startNotice, tx]
  simp only [State.startNotices, same]

/-- A command that leaves a quiet state answers that state. -/
theorem State.done_of_quiet {s : State} (h : s.quiet) : s.done = .next s := by
  simp only [State.done, State.startNotices_of_quiet h]

/-- Every command that ends in `done` answers a quiet state. -/
theorem State.startNotices_quiet (s : State) : s.startNotices.quiet := by
  intro q
  rw [State.startNotices_at]
  unfold PortState.startNotice
  split
  · intro h; simp at h
  · intro h; simp_all

/-- A reply started on a port of a quiet state leaves it quiet. -/
theorem State.replied_quiet {s : State} (h : s.quiet) (p : Port) (code tag : Byte) (result : ReplyCode) (now : Frame)
    (data : List Byte) : (s.replied p code tag result now data).quiet := by
  intro q
  simp only [State.replied, State.modPort_at]
  split
  · intro h'; simp at h'
  · exact h q

/-! ### A request taken at once -/

/-- A request received on a ready port is taken at once (R174, R176): its reply starts, and what it leaves is the
answer's state. -/
theorem State.request_ready {s : State} {r : Sys2Proof.Request} (h : s.ready r.port) (fits : r.payload.length ≤ 1020)
    (code : Byte) :
    s.request code r =
      (s.answer r.port code r.payload).state.replied r.port code r.tag (s.answer r.port code r.payload).code
        s.ref.counter (s.answer r.port code r.payload).data := by
  obtain ⟨tx, notice, overruns, queue⟩ := h
  have enq : s.modPort r.port (fun x => x.enqueue ⟨code, r.tag, r.payload⟩ s.ref.counter) =
      s.modPort r.port fun x => { x with queue := [⟨code, r.tag, r.payload⟩] } := by
    simp only [State.modPort]
    congr 2
    apply Vector.ext
    intro j hj
    by_cases e : r.port.val = j
    · subst e
      simp only [updAt_getElem, if_true, Fin.getElem_fin, PortState.enqueue] at *
      simp [queue]
    · simp [updAt_getElem, e]
  have back : (s.modPort r.port fun x => { x with queue := [⟨code, r.tag, r.payload⟩] }).modPort r.port
      (fun y => { y with queue := [] }) = s := by
    rw [State.modPort_modPort]
    apply State.modPort_id
    cases hp : s.ports.port[r.port]
    rw [hp] at queue
    simp_all
  unfold State.request
  rw [if_neg (by omega), State.receive, enq, State.arbitrate]
  simp only [State.modPort_at, if_true, tx, notice, overruns, back]
  rfl

/-- A request row on a ready port whose answer leaves a quiet state answers exactly that state with the reply
started. -/
theorem State.request_done {s t : State} {r : Sys2Proof.Request} (h : s.ready r.port) (fits : r.payload.length ≤ 1020)
    (code : Byte) {result : ReplyCode} {data : List Byte} (a : s.answer r.port code r.payload = ⟨result, data, t⟩)
    (hq : t.quiet) :
    (s.request code r).done = .next (t.replied r.port code r.tag result s.ref.counter data) := by
  rw [State.request_ready h fits, a]
  exact State.done_of_quiet (State.replied_quiet hq _ _ _ _ _ _)

end Sys2Proof.Machine
end

