-- ==== Sys2Proof/Laws/Image.lean ====
section
/-! SUPPORT. Reading the image back (R185, R186): what each reader answers on bytes that its item's writer put in
front. -/

namespace Sys2Proof.Machine

/-- A reader takes exactly the bytes that stand for `a` off the front. -/
def Reader.Takes {α : Type} (r : Reader α) (bytes : List Byte) (a : α) : Prop :=
  ∀ rest : List Byte, r (bytes ++ rest) = some (a, rest)

theorem chunk_takes {α : Type} {width : Nat} {f : List Byte → Option α} {bytes : List Byte} {a : α}
    (length : bytes.length = width) (value : f bytes = some a) : (chunk width f).Takes bytes a := by
  intro rest
  subst length
  simp [chunk, value]

theorem many_takes {α : Type} {r : Reader α} {write : α → List Byte} (l : List α)
    (each : ∀ a ∈ l, r.Takes (write a) a) : (many l.length r).Takes (l.flatMap write) l := by
  induction l with
  | nil => intro rest; rfl
  | cons a l ih =>
    intro rest
    simp [many, each a (by simp) (l.flatMap write ++ rest), ih (fun b hb => each b (by simp [hb])) rest]

theorem table_takes {α : Type} {n : Nat} {r : Reader α} {write : α → List Byte} (v : Vector α n)
    (each : ∀ a ∈ v.toList, r.Takes (write a) a) : (table n r).Takes (v.toList.flatMap write) v := by
  intro rest
  have read := many_takes v.toList each rest
  rw [Vector.length_toList] at read
  simp [table, read, asTable]
  rfl

/-- A table of `n` equal records. -/
theorem table_takes_replicate {α : Type} {n : Nat} {r : Reader α} {write : α → List Byte} {a : α}
    (one : r.Takes (write a) a) :
    (table n r).Takes ((Vector.replicate n a).toList.flatMap write) (Vector.replicate n a) :=
  table_takes _ fun b hb => by
    rw [Vector.toList_replicate] at hb
    rw [List.eq_of_mem_replicate hb]
    exact one

theorem be32_of_u32 (n : Nat) :
    be32 (BitVec.ofNat 8 (n / 16777216)) (BitVec.ofNat 8 (n / 65536)) (BitVec.ofNat 8 (n / 256)) (BitVec.ofNat 8 n) =
      BitVec.ofNat 32 n := by
  apply BitVec.eq_of_toNat_eq
  simp [be32]
  omega

/-- A body behind the header that the store writes is what the header's checks pass on (12.9). -/
theorem loadImage_image (b : ImageBody) (length : b.bytes.length ≤ 131072) :
    loadImage (some b.image) = goodBody b.bytes := by
  have size : (BitVec.ofNat 32 b.bytes.length).toNat = b.bytes.length := by
    rw [BitVec.toNat_ofNat, Nat.mod_eq_of_lt (by omega)]
  have check := be32_of_u32 (crc32 b.bytes).toNat
  have id : be32 (BitVec.ofNat 8 (0x4E563431 / 16777216)) (BitVec.ofNat 8 (0x4E563431 / 65536))
      (BitVec.ofNat 8 (0x4E563431 / 256)) (BitVec.ofNat 8 0x4E563431) = 0x4E563431 := by decide
  simp only [ImageBody.image, u32, loadImage, List.cons_append, List.nil_append, be32_of_u32, size]
  rw [if_pos]
  · simp
  · refine ⟨id, trivial, by decide, length, ?_, ?_⟩
    · simp
    · simp

theorem bind_some_of {α β : Type} {x : Option α} {a : α} {f : α → Option β} (h : x = some a) : (x >>= f) = f a := by
  rw [h]
  rfl

/-- A body whose every item is read back from the bytes that stand for it is read back whole (R185). -/
theorem readBody_bytes (b : ImageBody) (ports : Vector (PortRole × LineRate) 4)
    (patch : (table 1024 readPatch).Takes (b.patch.toList.flatMap PatchRec.bytes) b.patch)
    (shotMap : (table 16 readShot).Takes (b.shotMap.toList.flatMap ShotEntry.bytes) b.shotMap)
    (windowGuards : (table 32 (oneByte guard?)).Takes (b.windowGuards.toList.flatMap fun g => u8 g.code) b.windowGuards)
    (groupGuards : (table 16 (oneByte guard?)).Takes (b.groupGuards.toList.flatMap fun g => u8 g.code) b.groupGuards)
    (routing : (table 16 (oneByte fun x => some (BitVec.ofNat 4 x.toNat))).Takes
      (b.routing.toList.flatMap fun r => u8 r.toNat) b.routing)
    (lines : (table 8 readLine).Takes (b.lines.toList.flatMap lineBytes) b.lines)
    (links : (table 4 readLink).Takes (b.links.toList.flatMap WallLink.bytes) b.links)
    (holdLimits : (table 4 readHold).Takes (b.holdLimits.toList.flatMap u16) b.holdLimits)
    (sets : (table 4 readSet).Takes (b.sets.toList.flatMap TransitionSet.bytes) b.sets)
    (timing : readTiming.Takes b.timing.bytes b.timing)
    (portRecords : (table 4 readPort).Takes (portBytes b.roles b.rates) ports)
    (roles : mapTab Prod.fst ports = b.roles) (rates : mapTab Prod.snd ports = b.rates)
    (bankA : readBank.Takes b.bankA.bytes b.bankA) (bankB : readBank.Takes b.bankB.bytes b.bankB)
    (program : (oneByte bankName?).Takes (u8 b.program.code) b.program)
    (count : readCount.Takes (u16 b.store.length) b.store.length)
    (store : (many b.store.length readCue).Takes (b.store.flatMap Cue.bytes) b.store)
    (levels : (table 8 (oneByte fun x => some (clampNat 1 7 x.toNat))).Takes (b.levels.toList.flatMap u8) b.levels) :
    readBody b.bytes = some (b, []) := by
  have last := levels []
  rw [List.append_nil] at last
  rw [ImageBody.bytes]
  simp only [List.append_assoc]
  refine (bind_some_of (patch _)).trans ?_
  refine (bind_some_of (shotMap _)).trans ?_
  refine (bind_some_of (windowGuards _)).trans ?_
  refine (bind_some_of (groupGuards _)).trans ?_
  refine (bind_some_of (routing _)).trans ?_
  refine (bind_some_of (lines _)).trans ?_
  refine (bind_some_of (links _)).trans ?_
  refine (bind_some_of (holdLimits _)).trans ?_
  refine (bind_some_of (sets _)).trans ?_
  refine (bind_some_of (timing _)).trans ?_
  refine (bind_some_of (portRecords _)).trans ?_
  refine (bind_some_of (bankA _)).trans ?_
  refine (bind_some_of (bankB _)).trans ?_
  refine (bind_some_of (program _)).trans ?_
  refine (bind_some_of (count _)).trans ?_
  refine (bind_some_of (store _)).trans ?_
  refine (bind_some_of last).trans ?_
  simp only [roles, rates]

/-- A lawful body that reads back from its own bytes is the good image's body (R186). -/
theorem goodBody_bytes (b : ImageBody) (read : readBody b.bytes = some (b, [])) (lawful : b.lawful = true) :
    goodBody b.bytes = some b := by
  simp [goodBody, read, lawful]

end Sys2Proof.Machine
end

