-- ==== Sys2Proof/Laws/Lines.lean ====
section
/-! SUPPORT. The packet as it is sent on a lighting line (R79): how long its parts last, and where the line is low and
high. -/

namespace Sys2Proof.Machine

@[simp] theorem pulsesLast_nil : pulsesLast [] = 0 := rfl

@[simp] theorem pulsesLast_cons (p : Pulse) (l : List Pulse) : pulsesLast (p :: l) = p.micros + pulsesLast l := by
  simp [pulsesLast]

@[simp] theorem pulsesLast_append (l m : List Pulse) : pulsesLast (l ++ m) = pulsesLast l + pulsesLast m := by
  simp [pulsesLast]

/-- A byte lasts eleven bit times of 4 microseconds. -/
@[simp] theorem bytePulses_last (b : Byte) : pulsesLast (bytePulses b) = 44 := rfl

theorem bytesPulses_last (l : List Byte) : pulsesLast (l.flatMap bytePulses) = l.length * 44 := by
  induction l with
  | nil => rfl
  | cons b l ih =>
    rw [List.flatMap_cons, pulsesLast_append, bytePulses_last, ih, List.length_cons]
    omega

/-- A packet lasts as long as R79 computes it. -/
theorem InFlight.pulses_last (f : InFlight) : pulsesLast f.pulses = packetDuration f.values.length f.breakLen := by
  simp only [InFlight.pulses, InFlight.bytes, pulsesLast_cons, bytesPulses_last, packetDuration, List.length_cons]
  omega

/-- A line that pulses have driven rests high once they are over. -/
theorem levelAt_after (l : List Pulse) (t : Nat) (h : pulsesLast l ≤ t) : levelAt l t = .high := by
  induction l generalizing t with
  | nil => rfl
  | cons p l ih =>
    rw [pulsesLast_cons] at h
    rw [levelAt, if_neg (by omega)]
    exact ih _ (by omega)

/-- A line is low during its break. -/
theorem InFlight.level_break (f : InFlight) (t : Nat) (h : t < f.breakLen) : levelAt f.pulses t = .low := by
  simp [InFlight.pulses, levelAt, h]

/-- A line is high during its mark-after-break. -/
theorem InFlight.level_mark (f : InFlight) (t : Nat) (lo : f.breakLen ≤ t) (hi : t < f.breakLen + 12) :
    levelAt f.pulses t = .high := by
  have a : ¬ t < f.breakLen := by omega
  have b : t - f.breakLen < 12 := by omega
  simp [InFlight.pulses, levelAt, a, b]

/-- A line with no packet rests high. -/
@[simp] theorem Line.level_idle (l : Line) (t : Nat) (h : l.inFlight = none) : l.level t = .high := by
  simp [Line.level, h]

end Sys2Proof.Machine
end

