-- ==== Sys2Proof/Laws/Requests.lean ====
section
/-! SUPPORT. What a request that passes the checks of the Access Unit answers, and what the shared operations behind the
requests and actions can do, one lemma each. -/

namespace Sys2Proof.Machine

/-! ### The Access Unit's checks (R140, R144) -/

theorem AccessUnit.denyingClaim_eq_none (a : AccessUnit) (who : Option Port) (items : List Item)
    (h : ∀ i ∈ items, a.denied who i = false) : a.denyingClaim who items = none := by
  have : items.filter (a.denied who) = [] := by
    rw [List.filter_eq_nil_iff]
    intro i hi
    simp [h i hi]
  simp [AccessUnit.denyingClaim, this]

@[simp] theorem AccessUnit.denyingClaim_nil (a : AccessUnit) (who : Option Port) : a.denyingClaim who [] = none :=
  a.denyingClaim_eq_none who [] (by simp)

/-- A request that passes role, lock and claims goes to the block that owns it. -/
theorem State.answer_passes {s : State} {p : Port} {code : Byte} {payload : List Byte} (known : knownCode code = true)
    (role : engineering code = true → s.access.roles[p] = .engineering) (lock : s.access.lockedOut code = false)
    (items : ∀ i ∈ s.itemsNamed p code payload, s.access.denied (some p) i = false) :
    s.answer p code payload = takeByCode p code payload s := by
  have check : s.accessCheck p code payload = none := by
    unfold State.accessCheck
    rw [lock, AccessUnit.denyingClaim_eq_none _ _ _ items]
    cases e : engineering code with
    | false => simp
    | true => simp [role e]
  simp [State.answer, known, check]

/-- An engineering request of an OPERATOR port is answered ROLE. -/
theorem State.answer_role {s : State} {p : Port} {code : Byte} {payload : List Byte} (known : knownCode code = true)
    (e : engineering code = true) (role : s.access.roles[p] = .operator) :
    s.answer p code payload = refuse s .role := by
  simp [State.answer, known, State.accessCheck, e, role]

/-! ### Requests by their codes (12.2) -/

@[simp] theorem takeByCode_01 (p : Port) (l : List Byte) (s : State) :
    takeByCode p 0x01 l s = takeRead l s := rfl
@[simp] theorem takeByCode_02 (p : Port) (l : List Byte) (s : State) :
    takeByCode p 0x02 l s = takeReadAlerts p l s := rfl
@[simp] theorem takeByCode_03 (p : Port) (l : List Byte) (s : State) :
    takeByCode p 0x03 l s = takeClearClip l s := rfl
@[simp] theorem takeByCode_04 (p : Port) (l : List Byte) (s : State) :
    takeByCode p 0x04 l s = takeSetLevel p l s := rfl
@[simp] theorem takeByCode_05 (p : Port) (l : List Byte) (s : State) :
    takeByCode p 0x05 l s = takeSetLevelsShort p l s := rfl
@[simp] theorem takeByCode_06 (p : Port) (l : List Byte) (s : State) :
    takeByCode p 0x06 l s = takeSetWindow p l s := rfl
@[simp] theorem takeByCode_07 (p : Port) (l : List Byte) (s : State) :
    takeByCode p 0x07 l s = takeSetFill l s := rfl
@[simp] theorem takeByCode_08 (p : Port) (l : List Byte) (s : State) :
    takeByCode p 0x08 l s = takeSetMaster p l s := rfl
@[simp] theorem takeByCode_09 (p : Port) (l : List Byte) (s : State) :
    takeByCode p 0x09 l s = takeTake l s := rfl
@[simp] theorem takeByCode_0a (p : Port) (l : List Byte) (s : State) :
    takeByCode p 0x0A l s = takeCopy l s := rfl
@[simp] theorem takeByCode_0b (p : Port) (l : List Byte) (s : State) :
    takeByCode p 0x0B l s = takeStoreCue l s := rfl
@[simp] theorem takeByCode_0c (p : Port) (l : List Byte) (s : State) :
    takeByCode p 0x0C l s = takeDeleteCue l s := rfl
@[simp] theorem takeByCode_0d (p : Port) (l : List Byte) (s : State) :
    takeByCode p 0x0D l s = takeSetStack l s := rfl
@[simp] theorem takeByCode_0e (p : Port) (l : List Byte) (s : State) :
    takeByCode p 0x0E l s = takeGo l s := rfl
@[simp] theorem takeByCode_0f (p : Port) (l : List Byte) (s : State) :
    takeByCode p 0x0F l s = takeArm l s := rfl
@[simp] theorem takeByCode_10 (p : Port) (l : List Byte) (s : State) :
    takeByCode p 0x10 l s = takeHalt l s := rfl
@[simp] theorem takeByCode_11 (p : Port) (l : List Byte) (s : State) :
    takeByCode p 0x11 l s = takeResetStack l s := rfl
@[simp] theorem takeByCode_12 (p : Port) (l : List Byte) (s : State) :
    takeByCode p 0x12 l s = takeReleaseLevel l s := rfl
@[simp] theorem takeByCode_13 (p : Port) (l : List Byte) (s : State) :
    takeByCode p 0x13 l s = takeClaim p l s := rfl
@[simp] theorem takeByCode_14 (p : Port) (l : List Byte) (s : State) :
    takeByCode p 0x14 l s = takeUnclaim p l s := rfl
@[simp] theorem takeByCode_15 (p : Port) (l : List Byte) (s : State) :
    takeByCode p 0x15 l s = takeAsk p l s := rfl
@[simp] theorem takeByCode_16 (p : Port) (l : List Byte) (s : State) :
    takeByCode p 0x16 l s = takeYield p l s := rfl
@[simp] theorem takeByCode_17 (p : Port) (l : List Byte) (s : State) :
    takeByCode p 0x17 l s = takeDropClaim l s := rfl
@[simp] theorem takeByCode_18 (p : Port) (l : List Byte) (s : State) :
    takeByCode p 0x18 l s = takeSetRole l s := rfl
@[simp] theorem takeByCode_19 (p : Port) (l : List Byte) (s : State) :
    takeByCode p 0x19 l s = takeSetPage p l s := rfl
@[simp] theorem takeByCode_1a (p : Port) (l : List Byte) (s : State) :
    takeByCode p 0x1A l s = takeSetShotMap l s := rfl
@[simp] theorem takeByCode_1b (p : Port) (l : List Byte) (s : State) :
    takeByCode p 0x1B l s = takeSetGuard l s := rfl
@[simp] theorem takeByCode_1c (p : Port) (l : List Byte) (s : State) :
    takeByCode p 0x1C l s = takeSetPatch l s := rfl
@[simp] theorem takeByCode_1d (p : Port) (l : List Byte) (s : State) :
    takeByCode p 0x1D l s = takeSetLine l s := rfl
@[simp] theorem takeByCode_1e (p : Port) (l : List Byte) (s : State) :
    takeByCode p 0x1E l s = takeSetWallLink l s := rfl
@[simp] theorem takeByCode_1f (p : Port) (l : List Byte) (s : State) :
    takeByCode p 0x1F l s = takeSetSource l s := rfl
@[simp] theorem takeByCode_20 (p : Port) (l : List Byte) (s : State) :
    takeByCode p 0x20 l s = takeSetTransition l s := rfl
@[simp] theorem takeByCode_21 (p : Port) (l : List Byte) (s : State) :
    takeByCode p 0x21 l s = takeSetRoute l s := rfl
@[simp] theorem takeByCode_22 (p : Port) (l : List Byte) (s : State) :
    takeByCode p 0x22 l s = takeSetTiming p l s := rfl
@[simp] theorem takeByCode_23 (p : Port) (l : List Byte) (s : State) :
    takeByCode p 0x23 l s = takeSetFrame l s := rfl
@[simp] theorem takeByCode_24 (p : Port) (l : List Byte) (s : State) :
    takeByCode p 0x24 l s = takeSetSafety l s := rfl
@[simp] theorem takeByCode_25 (p : Port) (l : List Byte) (s : State) :
    takeByCode p 0x25 l s = takeLock l s := rfl
@[simp] theorem takeByCode_26 (p : Port) (l : List Byte) (s : State) :
    takeByCode p 0x26 l s = takeSaveImage p l s := rfl
@[simp] theorem takeByCode_27 (p : Port) (l : List Byte) (s : State) :
    takeByCode p 0x27 l s = takeShowReset l s := rfl

/-! ### Takeovers and safety -/

/-- What a release changes beside the ports: the entries and overrides of its level, the release fade and the stack
(R126). -/
theorem State.release_keeps (s : State) (l : Nat) (k : StackNo) (fade : Nat) :
    (s.release l k fade).ref = s.ref ∧ (s.release l k fade).scene = s.scene ∧ (s.release l k fade).wall = s.wall ∧
      (s.release l k fade).lines = s.lines ∧ (s.release l k fade).access = s.access ∧
      (s.release l k fade).tally = s.tally ∧ (s.release l k fade).image = s.image ∧
      (s.release l k fade).choices = s.choices ∧ (s.release l k fade).pending = s.pending :=
  ⟨rfl, rfl, rfl, rfl, rfl, rfl, rfl, rfl, rfl⟩

/-- What a change of the emergency input or the latch keeps (R128). -/
theorem State.setSafety_keeps (s : State) (e l : Bool) :
    (s.setSafety e l).ref = s.ref ∧ (s.setSafety e l).scene = s.scene ∧ (s.setSafety e l).wall = s.wall ∧
      (s.setSafety e l).level = s.level ∧ (s.setSafety e l).lines = s.lines ∧ (s.setSafety e l).cue = s.cue ∧
      (s.setSafety e l).access = s.access ∧ (s.setSafety e l).tally = s.tally ∧ (s.setSafety e l).image = s.image ∧
      (s.setSafety e l).choices = s.choices ∧ (s.setSafety e l).pending = s.pending := by
  unfold State.setSafety
  dsimp only
  split <;> exact ⟨rfl, rfl, rfl, rfl, rfl, rfl, rfl, rfl, rfl, rfl, rfl⟩

/-! ### Guarded writes -/

/-- A stored write touches the named bank, or the named master, only. -/
theorem State.writeItem_keeps (s : State) (w : ItemWrite) :
    (s.writeItem w).ref = s.ref ∧ (s.writeItem w).wall = s.wall ∧ (s.writeItem w).lines = s.lines ∧
      (s.writeItem w).cue = s.cue ∧ (s.writeItem w).takeover = s.takeover ∧ (s.writeItem w).access = s.access ∧
      (s.writeItem w).tally = s.tally ∧ (s.writeItem w).ports = s.ports ∧ (s.writeItem w).image = s.image ∧
      (s.writeItem w).choices = s.choices ∧ (s.writeItem w).pending = s.pending := by
  cases w <;> exact ⟨rfl, rfl, rfl, rfl, rfl, rfl, rfl, rfl, rfl, rfl, rfl⟩

/-- A direct write touches its bank or master and the deferred queue only. -/
theorem State.directWrite_keeps (s : State) (w : ItemWrite) :
    (s.directWrite w).ref = s.ref ∧ (s.directWrite w).wall = s.wall ∧ (s.directWrite w).lines = s.lines ∧
      (s.directWrite w).cue = s.cue ∧ (s.directWrite w).takeover = s.takeover ∧
      (s.directWrite w).access = s.access ∧ (s.directWrite w).ports = s.ports ∧ (s.directWrite w).image = s.image ∧
      (s.directWrite w).choices = s.choices ∧ (s.directWrite w).pending = s.pending := by
  cases w <;> exact ⟨rfl, rfl, rfl, rfl, rfl, rfl, rfl, rfl, rfl, rfl⟩

/-- Any part of the state that one direct write keeps, a list of direct writes keeps. -/
theorem State.directWrites_keep {β : Type} (f : State → β) (one : ∀ s w, f (State.directWrite s w) = f s)
    (ws : List ItemWrite) (s : State) : f (ws.foldl State.directWrite s) = f s := by
  induction ws generalizing s with
  | nil => rfl
  | cons w ws ih => rw [List.foldl_cons, ih, one]

/-- A guarded write that passes leaves the writes it applied on the queue it left, and then at most one GUARD_ALERT
(R162, R163). -/
theorem State.guardWrite_passed {s t : State} {writer : Writer} {ws : List ItemWrite} {deferred : Bool}
    (h : s.guardWrite writer ws = .passed t deferred) :
    ∃ (queue : List Deferred) (items : List GuardedItem) (kind : WriteKind),
      queue = (ws.filter fun w => decide (s.guardOf w = some .defer)).foldl (fun q w => joinQueue q ⟨w, writer⟩)
        s.tally.queue ∧
      (deferred = true → queue.length ≤ 32) ∧
      deferred = !(ws.filter fun w => decide (s.guardOf w = some .defer)).isEmpty ∧
      t = ((ws.filter fun w => !decide (s.guardOf w = some .defer)).foldl State.directWrite
        { s with tally := { s.tally with queue := queue } }).raiseGuardAlert items writer kind := by
  unfold State.guardWrite at h
  split at h
  · cases h
  · dsimp only at h
    split at h
    · cases h
    · rename_i full
      injection h with h1 h2
      refine ⟨_, _, _, rfl, ?_, h2.symm, h1.symm⟩
      intro d
      rw [← h2] at d
      simp only [d, Bool.true_and, decide_eq_true_eq, Nat.not_lt] at full
      exact full

/-- GUARD_ALERT changes the ports alone. -/
theorem State.raiseGuardAlert_keeps (s : State) (items : List GuardedItem) (writer : Writer) (kind : WriteKind) :
    s.raiseGuardAlert items writer kind = { s with ports := (s.raiseGuardAlert items writer kind).ports } := by
  unfold State.raiseGuardAlert
  split
  · split <;> rfl
  · rfl

@[simp] theorem State.raiseGuardAlert_nil (s : State) (writer : Writer) (kind : WriteKind) :
    s.raiseGuardAlert [] writer kind = s := rfl

theorem State.writeItem_queue (s : State) (w : ItemWrite) (q : List Deferred) :
    State.writeItem { s with tally := { s.tally with queue := q } } w =
      { s.writeItem w with tally := { s.tally with queue := q } } := by
  cases w <;> rfl

/-- Direct writes one after the other store the items, and take out of the queue what any of them would. -/
theorem State.directWrites_eq (ws : List ItemWrite) (s : State) :
    ws.foldl State.directWrite s =
      ws.foldl State.writeItem { s with tally := { s.tally with
        queue := s.tally.queue.filter fun d => decide (∀ w ∈ ws, d.write.sameKey w = false) } } := by
  induction ws generalizing s with
  | nil => simp
  | cons w ws ih =>
    have keep : (s.writeItem w).tally = s.tally := (s.writeItem_keeps w).2.2.2.2.2.2.1
    rw [List.foldl_cons, List.foldl_cons, ih]
    congr 1
    rw [State.writeItem_queue]
    simp only [State.directWrite, keep, List.filter_filter]
    congr 3
    funext d
    cases h : d.write.sameKey w <;> simp [h]

theorem lowestItem_mem {l : List GuardedItem} {i : GuardedItem} (h : lowestItem l = some i) : i ∈ l := by
  induction l generalizing i with
  | nil => cases h
  | cons a l ih =>
    unfold lowestItem at h
    split at h
    · rename_i j hj
      split at h <;> cases h
      · exact List.mem_cons_of_mem _ (ih hj)
      · exact List.mem_cons_self
    · cases h; exact List.mem_cons_self

theorem State.shotGuard_writes (ws : List ItemWrite) (s : State) (i : GuardedItem) :
    (ws.foldl State.writeItem s).shotGuard i = s.shotGuard i := by
  induction ws generalizing s with
  | nil => rfl
  | cons w ws ih =>
    rw [List.foldl_cons, ih]
    cases w <;> cases i <;> rfl

theorem State.ref_writes (ws : List ItemWrite) (s : State) : (ws.foldl State.writeItem s).ref = s.ref := by
  induction ws generalizing s with
  | nil => rfl
  | cons w ws ih => rw [List.foldl_cons, ih, (s.writeItem_keeps w).1]

theorem State.shotGuard_of_guardOf {s : State} {w : ItemWrite} {g : Guard} (h : s.guardOf w = some g) :
    s.shotGuard w.item = some g := by
  unfold State.guardOf at h
  split at h
  · split at h
    · exact h
    · cases h
  · exact h

/-- The items of a write that are stored, and then GUARD_ALERT, leave what `State.written` says. -/
theorem State.written_eq (s : State) (writer : Writer) (ws : List ItemWrite) :
    (∀ v ∈ ws, ∀ w ∈ ws, v.kind = w.kind) →
    ((ws.filter fun w => !decide (s.guardOf w = some .defer)).foldl State.directWrite
        { s with tally := { s.tally with queue := s.queueWith writer ws } }).raiseGuardAlert
        (((ws.filter fun w => !decide (s.guardOf w = some .defer)).filter fun w =>
          decide (s.guardOf w = some .alert)).map ItemWrite.item) writer
        (match ws with
          | w :: _ => w.kind
          | [] => .bank) = s.written writer ws := by
  intro kind
  rw [State.directWrites_eq]
  unfold State.raiseGuardAlert State.written
  simp only [ne_eq, decide_not]
  generalize hi : lowestItem (((ws.filter fun w => !decide (s.guardOf w = some .defer)).filter fun w =>
    decide (s.guardOf w = some .alert)).map ItemWrite.item) = low
  cases low with
  | none => rfl
  | some i =>
    have m := lowestItem_mem hi
    simp only [List.mem_map, List.mem_filter, decide_eq_true_eq] at m
    obtain ⟨w, ⟨⟨m, _⟩, a⟩, rfl⟩ := m
    have a := State.shotGuard_of_guardOf a
    have a' (q : List Deferred) : State.shotGuard { s with tally := { s.tally with queue := q } } w.item =
        some .alert := by
      rw [← a]; cases w <;> rfl
    simp only [State.shotGuard_writes, State.ref_writes, a']
    cases ws with
    | nil => cases m
    | cons v ws =>
      simp only [kind v List.mem_cons_self w m]
      cases w <;> rfl

/-- What the guards answer of a write of items of one kind (R162). -/
theorem State.guardWrite_eq (s : State) (writer : Writer) (ws : List ItemWrite)
    (kind : ∀ v ∈ ws, ∀ w ∈ ws, v.kind = w.kind) :
    s.guardWrite writer ws =
      if ∃ w ∈ ws, s.guardOf w = some .refuse then .guarded
      else if (∃ w ∈ ws, s.guardOf w = some .defer) ∧ 32 < (s.queueWith writer ws).length then .queueFull
      else .passed (s.written writer ws) (decide (∃ w ∈ ws, s.guardOf w = some .defer)) := by
  have any (g : Guard) : (ws.any fun w => decide (s.guardOf w = some g)) = decide (∃ w ∈ ws, s.guardOf w = some g) := by
    rw [Bool.eq_iff_iff]; simp
  have held : (!(ws.filter fun w => decide (s.guardOf w = some .defer)).isEmpty) =
      decide (∃ w ∈ ws, s.guardOf w = some .defer) := by
    rw [← any, Bool.eq_iff_iff]; simp
  have whole : s.guardWrite writer ws =
      if ws.any fun w => decide (s.guardOf w = some .refuse) then .guarded
      else if !(ws.filter fun w => decide (s.guardOf w = some .defer)).isEmpty &&
          decide (32 < (s.queueWith writer ws).length) then .queueFull
      else .passed (s.written writer ws) (!(ws.filter fun w => decide (s.guardOf w = some .defer)).isEmpty) := by
    rw [← State.written_eq s writer ws kind]
    rfl
  rw [whole, held, any]
  simp only [Bool.and_eq_true, decide_eq_true_eq]

/-- What follows from each answer of the guards is what `State.guardsDecide` says. -/
theorem State.guardsDecide_of {s : State} {writer : Writer} {ws : List ItemWrite} {guarded queueFull : Prop}
    {passed : State → Bool → Prop} (kind : ∀ v ∈ ws, ∀ w ∈ ws, v.kind = w.kind)
    (g : s.guardWrite writer ws = .guarded → guarded) (f : s.guardWrite writer ws = .queueFull → queueFull)
    (p : ∀ t held, s.guardWrite writer ws = .passed t held → passed t held) :
    s.guardsDecide writer ws guarded queueFull passed := by
  rw [State.guardWrite_eq s writer ws kind] at g f
  simp only [State.guardWrite_eq s writer ws kind] at p
  refine ⟨fun h => g (by simp only [h, if_true]), fun n => ?_⟩
  have no : ¬ ∃ w ∈ ws, s.guardOf w = some .refuse := fun ⟨w, m, e⟩ => n w m e
  refine ⟨fun d => ⟨fun l => f ?_, fun l => p _ _ ?_⟩, fun d => p _ _ ?_⟩
  · simp only [no, d, l, if_true, if_false, and_self]
  · simp only [no, d, Nat.not_lt.2 l, if_false, and_false, decide_true]
  · have nd : ¬ ∃ w ∈ ws, s.guardOf w = some .defer := fun ⟨w, m, e⟩ => d w m e
    simp only [no, nd, if_false, false_and, decide_false]

end Sys2Proof.Machine
end

