-- ==== Sys2Proof/Laws/Mark.lean ====
section
/-! SUPPORT. What a MARK is made of (R97): the order of its tasks, what an entry written to the override table leaves
(R121), what the actions of a firing can touch (R103 to R105), and a firing as the statements say it (R102). -/

namespace Sys2Proof.Machine

/-- An order picked by any list of numbers holds exactly the elements of the list. -/
theorem arrange_perm {α : Type} (order : List Nat) (l : List α) : (arrange order l).Perm l := by
  fun_induction arrange order l with
  | case1 => exact .refl _
  | case2 => exact .refl _
  | case3 => exact .refl _
  | case4 p ps a b l x h ih =>
    obtain ⟨lt, rfl⟩ := List.getElem?_eq_some_iff.1 h
    exact (ih.cons _).trans (List.getElem_cons_eraseIdx_perm lt)
  | case5 => exact .refl _

/-- An entry replaced wherever its key and level stand leaves the entries of other keys and levels as they are. -/
theorem overrideAt_map (e : Override) (key : OverrideKey) (l : Nat) (table : List Override) :
    overrideAt (table.map fun x => if x.level == e.level && decide (x.item.key = e.item.key) then e else x) key l =
      if e.level = l ∧ e.item.key = key then (overrideAt table key l).map fun _ => e else overrideAt table key l := by
  induction table with
  | nil => simp [overrideAt]
  | cons x table ih =>
    unfold overrideAt at ih ⊢
    rw [List.map_cons, List.find?_cons, List.find?_cons, ih]
    have test (x : Override) (k : OverrideKey) (n : Nat) :
        (x.level == n && decide (x.item.key = k)) = decide (x.level = n ∧ x.item.key = k) := by
      rw [Bool.eq_iff_iff]; simp
    simp only [test, decide_eq_true_eq]
    by_cases same : e.level = l ∧ e.item.key = key
    · obtain ⟨rfl, rfl⟩ := same
      by_cases m : x.level = e.level ∧ x.item.key = e.item.key <;> simp [m]
    · simp only [if_neg same]
      by_cases m : x.level = e.level ∧ x.item.key = e.item.key
      · simp [m, same]
      · simp [m]

/-- One entry written to the override table stands at its key and level, and every other entry stays (R121). -/
theorem overrideAt_write (table : List Override) (e : Override) (key : OverrideKey) (l : Nat) :
    overrideAt (writeOverride table e) key l =
      if e.level = l ∧ e.item.key = key then some e else overrideAt table key l := by
  unfold writeOverride
  split
  · rename_i hit
    rw [overrideAt_map]
    split
    · rename_i same
      obtain ⟨rfl, rfl⟩ := same
      have : (overrideAt table e.item.key e.level).isSome = true := by
        rw [overrideAt, List.find?_isSome]
        simpa using hit
      obtain ⟨y, hy⟩ := Option.isSome_iff_exists.1 this
      rw [hy]; rfl
    · rfl
  · rename_i miss
    unfold overrideAt
    rw [List.find?_append]
    by_cases same : e.level = l ∧ e.item.key = key
    · obtain ⟨rfl, rfl⟩ := same
      have : List.find? (fun x => x.level == e.level && decide (x.item.key = e.item.key)) table = none := by
        rw [List.find?_eq_none]
        simpa using miss
      simp [this]
    · rw [if_neg same]
      have : List.find? (fun x => x.level == l && decide (x.item.key = key)) [e] = none := by
        rw [List.find?_eq_none]
        simpa using fun h1 h2 => same ⟨h1, h2⟩
      rw [this, Option.or_none]

/-- What the actions of a firing leave as it stands: all but the banks and the transition context, the masters, the
override table, the deferred queue, the ports, and of the stacks their chained GOs and counts of skipped actions. -/
structure State.Acted (s t : State) : Prop where
  ref : t.ref = s.ref
  wall : t.wall = s.wall
  lines : t.lines = s.lines
  store : t.cue.store = s.cue.store
  lateGrace : t.cue.lateGrace = s.cue.lateGrace
  recs : ∀ j : StackNo, ∃ c n, t.cue.recs[j] = { s.cue.recs[j] with chainedGo := c, skipped := n }
  takeover : t.takeover = { s.takeover with overrides := t.takeover.overrides }
  level : t.level = { s.level with masters := t.level.masters }
  access : t.access = s.access
  tally : t.tally = { s.tally with queue := t.tally.queue }
  routing : t.ports.routing = s.ports.routing
  image : t.image = s.image
  choices : t.choices = s.choices
  pending : t.pending = s.pending

theorem State.Acted.refl (s : State) : s.Acted s :=
  ⟨rfl, rfl, rfl, rfl, rfl, fun j => ⟨(s.cue.recs[j]).chainedGo, (s.cue.recs[j]).skipped, rfl⟩, rfl, rfl, rfl, rfl, rfl,
    rfl, rfl, rfl⟩

theorem State.Acted.trans {s t u : State} (a : s.Acted t) (b : t.Acted u) : s.Acted u where
  ref := b.ref.trans a.ref
  wall := b.wall.trans a.wall
  lines := b.lines.trans a.lines
  store := b.store.trans a.store
  lateGrace := b.lateGrace.trans a.lateGrace
  recs j := by
    obtain ⟨c, n, e⟩ := a.recs j
    obtain ⟨c', n', e'⟩ := b.recs j
    exact ⟨c', n', by rw [e', e]⟩
  takeover := by rw [b.takeover, a.takeover]
  level := by rw [b.level, a.level]
  access := b.access.trans a.access
  tally := by rw [b.tally, a.tally]
  routing := b.routing.trans a.routing
  image := b.image.trans a.image
  choices := b.choices.trans a.choices
  pending := b.pending.trans a.pending

theorem State.raiseTo_acted (s : State) (d : PortSet) (a : Alert) : s.Acted (s.raiseTo d a) :=
  { State.Acted.refl s with takeover := rfl, level := rfl, tally := rfl }

theorem State.raiseStack_acted (s : State) (k : StackNo) (a : Alert) : s.Acted (s.raiseStack k a) :=
  s.raiseTo_acted _ a

theorem State.raiseGuardAlert_acted (s : State) (items : List GuardedItem) (writer : Writer) (kind : WriteKind) :
    s.Acted (s.raiseGuardAlert items writer kind) := by
  unfold State.raiseGuardAlert
  split
  · split
    · exact s.raiseTo_acted _ _
    · exact .refl s
  · exact .refl s

theorem State.modStack_acted (s : State) (k : StackNo) (f : StackRec → StackRec)
    (keeps : ∀ r : StackRec, ∃ c n, f r = { r with chainedGo := c, skipped := n }) : s.Acted (s.modStack k f) where
  ref := rfl
  wall := rfl
  lines := rfl
  store := rfl
  lateGrace := rfl
  recs j := by
    rw [State.modStack_at]
    split
    · rename_i e; subst e; exact keeps _
    · exact ⟨_, _, rfl⟩
  takeover := rfl
  level := rfl
  access := rfl
  tally := rfl
  routing := rfl
  image := rfl
  choices := rfl
  pending := rfl

theorem State.skipAction_acted (s : State) (k : StackNo) (cue place : Nat) (reason : SkipReason) :
    s.Acted (s.skipAction k cue place reason) :=
  (s.modStack_acted k _ fun r => ⟨r.chainedGo, _, rfl⟩).trans (State.raiseStack_acted _ _ _)

theorem State.directWrite_acted (s : State) (w : ItemWrite) : s.Acted (s.directWrite w) := by
  cases w <;> exact { State.Acted.refl s with takeover := rfl, level := rfl, tally := rfl }

theorem State.directWrites_acted (ws : List ItemWrite) (s : State) : s.Acted (ws.foldl State.directWrite s) := by
  induction ws generalizing s with
  | nil => exact .refl s
  | cons w ws ih => exact (s.directWrite_acted w).trans (ih _)

theorem State.guardWrite_acted {s t : State} {writer : Writer} {ws : List ItemWrite} {deferred : Bool}
    (h : s.guardWrite writer ws = .passed t deferred) : s.Acted t := by
  obtain ⟨queue, items, kind, _, _, _, rfl⟩ := State.guardWrite_passed h
  refine State.Acted.trans (t := { s with tally := { s.tally with queue := queue } }) ?_
    ((State.directWrites_acted _ _).trans (State.raiseGuardAlert_acted _ _ _ _))
  exact { State.Acted.refl s with takeover := rfl, level := rfl, tally := rfl }

/-- What an action of a firing can touch (R103 to R105). -/
theorem State.act_acted (s : State) (k : StackNo) (cue place : Nat) (a : Action) : s.Acted (s.act k cue place a) := by
  have write (busy : Bool) (ws : List ItemWrite) : s.Acted (s.actionWrite k cue place busy ws) := by
    unfold State.actionWrite
    split
    · exact s.skipAction_acted _ _ _ _
    · split
      · exact s.skipAction_acted _ _ _ _
      · exact s.skipAction_acted _ _ _ _
      · exact State.guardWrite_acted ‹_›
  have toTable (es : List Override) : s.Acted (s.overrideWrite k cue place es) := by
    unfold State.overrideWrite
    dsimp only
    split
    · exact s.skipAction_acted _ _ _ _
    · split
      · exact (s.skipAction_acted _ _ _ _).trans (State.raiseTo_acted _ _ _)
      · refine State.Acted.trans (t := { s with takeover := { s.takeover with
          overrides := es.foldl writeOverride s.takeover.overrides } }) ?_ (State.raiseGuardAlert_acted _ _ _ _)
        exact { State.Acted.refl s with takeover := rfl, level := rfl, tally := rfl }
  unfold State.act
  split
  · exact s.skipAction_acted _ _ _ _
  · cases a with
    | level role first last v d => unfold State.actEffect; dsimp only; split; exacts [toTable _, write _ _]
    | window role w v => unfold State.actEffect; dsimp only; split; exacts [toTable _, write _ _]
    | master g v => exact write _ _
    | take n => exact { State.Acted.refl s with takeover := rfl, level := rfl, tally := rfl }
    | copy =>
      unfold State.actEffect
      dsimp only
      split
      · exact s.skipAction_acted _ _ _ _
      · exact { State.Acted.refl s with takeover := rfl, level := rfl, tally := rfl }
    | goStack j => exact s.modStack_acted j _ fun r => ⟨true, r.skipped, rfl⟩

/-- The actions of a list are taken one after the other, with their places. -/
theorem State.actAll_eq (k : StackNo) (cue : Nat) (l : List Action) (s : State) (place : Nat) :
    s.actAll k cue place l = (l.zipIdx place).foldl (fun u x => u.act k cue x.2 x.1) s := by
  induction l generalizing s place with
  | nil => rfl
  | cons a l ih => exact ih _ _

theorem State.actAll_acted (k : StackNo) (cue : Nat) (l : List Action) (s : State) (place : Nat) :
    s.Acted (s.actAll k cue place l) := by
  induction l generalizing s place with
  | nil => exact .refl s
  | cons a l ih => exact (s.act_acted k cue place a).trans (ih _ _)

/-- A firing is what `State.fired` says, where a release cue of a takeover stack finds its own stack holding its level
(R102). -/
theorem State.fire_eq {s : State} {k : StackNo} {n : Nat} {q : Cue} (again : Option Nat) (left : Nat)
    (count : left = again.elim q.body.repeats fun r => r - 1)
    (position : (s.cue.recs[k]).position = some n) (cue : s.cue.find k n = some q)
    (holder : isTakeover (s.cue.recs[k]).level = true → s.takeover.holder (s.cue.recs[k]).level = some k) :
    s.fire k again = s.fired k q left := by
  have whole : s.fire k again = if left = 0 then (s.actAll k q.number 1 q.body.actions).lastFiring k q
      else (s.actAll k q.number 1 q.body.actions).modStack k fun r =>
        { r with state := .repeating left q.body.interval } := by
    rw [count]
    unfold State.fire
    rw [position, Option.bind_some, cue]
    cases again <;> rfl
  rw [whole]
  unfold State.fired
  dsimp only
  rw [← State.actAll_eq]
  have acted := State.actAll_acted k q.number q.body.actions s 1
  generalize s.actAll k q.number 1 q.body.actions = u at acted
  obtain ⟨c, m, rec⟩ := acted.recs k
  have find (j : StackNo) (i : Nat) : u.cue.find j i = s.cue.find j i := by simp only [CueUnit.find, acted.store]
  have next (j : StackNo) (i : Nat) : u.cue.next j i = s.cue.next j i := by
    simp only [CueUnit.next, CueUnit.numbers, acted.store]
  by_cases done : left = 0
  · rw [if_pos done, if_neg (by simpa using done)]
    unfold State.lastFiring
    have lv : (u.cue.recs[k]).level = (s.cue.recs[k]).level := by rw [rec]
    have lp : (u.cue.recs[k]).loop = (s.cue.recs[k]).loop := by rw [rec]
    rw [lv, lp, acted.ref]
    have hold : ∀ (v : State), v.takeover = u.takeover → isTakeover (s.cue.recs[k]).level = true →
        v.takeover.holder (s.cue.recs[k]).level = some k := by
      intro v hv t
      rw [hv, acted.takeover]
      exact holder t
    have arrive (l : Option LoopContext) (x : Option Cue) : (fun r : StackRec => ({ r with loop := l }).arrive x) =
        fun r : StackRec => { r with
          loop := l
          position := x.map Cue.number
          state := match x with
            | some c => (match c.body.trigger with
              | .auto => .waiting c.body.wait
              | .go => .idle)
            | none => .ended } := by
      funext r
      cases x <;> rfl
    have find' : (fun n => u.cue.find k n) = fun n => s.cue.find k n := funext (find k)
    generalize loopStep q (s.cue.recs[k]).loop = m
    obtain ⟨l, back, nested⟩ := m
    cases back <;> cases nested <;> dsimp only <;>
      simp only [next, find', arrive, Option.none_or, Option.some_or] <;> split <;>
      first | rfl | (simp only [State.modStack_takeover, State.raiseStack_takeover, hold u rfl (Bool.and_eq_true_iff.1 ‹_›).1] <;> rfl)
  · rw [if_neg done, if_pos done]

end Sys2Proof.Machine
end

