-- ==== Sys2Proof/Laws/PerInstr.lean ====
section
/-! SUPPORT. One lemma per command: a well-formed command that is a request fits a control frame, and no word of the
opcode table spells any command, since the table gives no row bits. -/

namespace Sys2Proof.Laws

/-- A well-formed command's request fits a control frame (12.2). -/
def OperandsChecked.Statement (i : Instr) : Prop :=
  i.wf = true → ∀ p body, i.wire = some (p, body) → 2 ≤ body.length ∧ body.length ≤ 1022

theorem OperandsChecked.of_wf (i : Instr) : OperandsChecked.Statement i := by
  intro h p body hw
  have hf : i.fits = true := by
    unfold Instr.wf at h
    exact (Bool.and_eq_true _ _ ▸ h).1
  simpa [Instr.fits, hw, bodyFits] using hf

theorem OperandsChecked.hardReset : ∀ emergency, OperandsChecked.Statement (.hardReset emergency) :=
  fun _ => OperandsChecked.of_wf _

theorem OperandsChecked.referencePulse : ∀ elapsed inputs, OperandsChecked.Statement (.referencePulse elapsed inputs) :=
  fun _ _ => OperandsChecked.of_wf _

theorem OperandsChecked.localClockExpiry : ∀ inputs, OperandsChecked.Statement (.localClockExpiry inputs) :=
  fun _ => OperandsChecked.of_wf _

theorem OperandsChecked.absorptionWindowClose : OperandsChecked.Statement .absorptionWindowClose := OperandsChecked.of_wf _

theorem OperandsChecked.mark : ∀ order, OperandsChecked.Statement (.mark order) :=
  fun _ => OperandsChecked.of_wf _

theorem OperandsChecked.takeSwap : ∀ ev, OperandsChecked.Statement (.takeSwap ev) :=
  fun _ => OperandsChecked.of_wf _

theorem OperandsChecked.transitionEnd : ∀ ev, OperandsChecked.Statement (.transitionEnd ev) :=
  fun _ => OperandsChecked.of_wf _

theorem OperandsChecked.sourceHoldExpiry : ∀ ev src, OperandsChecked.Statement (.sourceHoldExpiry ev src) :=
  fun _ _ => OperandsChecked.of_wf _

theorem OperandsChecked.sourceFrameComplete : ∀ src frame, OperandsChecked.Statement (.sourceFrameComplete src frame) :=
  fun _ _ => OperandsChecked.of_wf _

theorem OperandsChecked.sourceFrameDiscard : ∀ src, OperandsChecked.Statement (.sourceFrameDiscard src) :=
  fun _ => OperandsChecked.of_wf _

theorem OperandsChecked.scanEnd : OperandsChecked.Statement .scanEnd := OperandsChecked.of_wf _

theorem OperandsChecked.levelsReady : OperandsChecked.Statement .levelsReady := OperandsChecked.of_wf _

theorem OperandsChecked.packetEnd : ∀ line, OperandsChecked.Statement (.packetEnd line) :=
  fun _ => OperandsChecked.of_wf _

theorem OperandsChecked.autoYield : ∀ ev id, OperandsChecked.Statement (.autoYield ev id) :=
  fun _ _ => OperandsChecked.of_wf _

theorem OperandsChecked.handoverExpiry : ∀ ev id, OperandsChecked.Statement (.handoverExpiry ev id) :=
  fun _ _ => OperandsChecked.of_wf _

theorem OperandsChecked.chainedGo : ∀ order stack, OperandsChecked.Statement (.chainedGo order stack) :=
  fun _ _ => OperandsChecked.of_wf _

theorem OperandsChecked.waitExpiry : ∀ order stack, OperandsChecked.Statement (.waitExpiry order stack) :=
  fun _ _ => OperandsChecked.of_wf _

theorem OperandsChecked.repeatIntervalExpiry : ∀ order stack, OperandsChecked.Statement (.repeatIntervalExpiry order stack) :=
  fun _ _ => OperandsChecked.of_wf _

theorem OperandsChecked.armTarget : ∀ order stack, OperandsChecked.Statement (.armTarget order stack) :=
  fun _ _ => OperandsChecked.of_wf _

theorem OperandsChecked.takeoverGrant : ∀ order, OperandsChecked.Statement (.takeoverGrant order) :=
  fun _ => OperandsChecked.of_wf _

theorem OperandsChecked.deferApply : ∀ order, OperandsChecked.Statement (.deferApply order) :=
  fun _ => OperandsChecked.of_wf _

theorem OperandsChecked.emergencyInputChange : ∀ asserted, OperandsChecked.Statement (.emergencyInputChange asserted) :=
  fun _ => OperandsChecked.of_wf _

theorem OperandsChecked.frameReceived : ∀ port body crc, OperandsChecked.Statement (.frameReceived port body crc) :=
  fun _ _ _ => OperandsChecked.of_wf _

theorem OperandsChecked.gap : ∀ port, OperandsChecked.Statement (.gap port) :=
  fun _ => OperandsChecked.of_wf _

theorem OperandsChecked.framing : ∀ port, OperandsChecked.Statement (.framing port) :=
  fun _ => OperandsChecked.of_wf _

theorem OperandsChecked.lineBreak : ∀ port, OperandsChecked.Statement (.lineBreak port) :=
  fun _ => OperandsChecked.of_wf _

theorem OperandsChecked.transmitEnd : ∀ port, OperandsChecked.Statement (.transmitEnd port) :=
  fun _ => OperandsChecked.of_wf _

theorem OperandsChecked.alertNotice : ∀ port, OperandsChecked.Statement (.alertNotice port) :=
  fun _ => OperandsChecked.of_wf _

theorem OperandsChecked.overrunReply : ∀ port, OperandsChecked.Statement (.overrunReply port) :=
  fun _ => OperandsChecked.of_wf _

theorem OperandsChecked.portRateChange : ∀ port, OperandsChecked.Statement (.portRateChange port) :=
  fun _ => OperandsChecked.of_wf _

theorem OperandsChecked.saveCompletion : OperandsChecked.Statement .saveCompletion := OperandsChecked.of_wf _

theorem OperandsChecked.saveVerifyFailure : OperandsChecked.Statement .saveVerifyFailure := OperandsChecked.of_wf _

theorem OperandsChecked.saveTimeout : OperandsChecked.Statement .saveTimeout := OperandsChecked.of_wf _

theorem OperandsChecked.unknownRequest : ∀ code r, OperandsChecked.Statement (.unknownRequest code r) :=
  fun _ _ => OperandsChecked.of_wf _

theorem OperandsChecked.readStatus : ∀ r, OperandsChecked.Statement (.readStatus r) :=
  fun _ => OperandsChecked.of_wf _

theorem OperandsChecked.readChannel : ∀ r, OperandsChecked.Statement (.readChannel r) :=
  fun _ => OperandsChecked.of_wf _

theorem OperandsChecked.readWindow : ∀ r, OperandsChecked.Statement (.readWindow r) :=
  fun _ => OperandsChecked.of_wf _

theorem OperandsChecked.readClaim : ∀ r, OperandsChecked.Statement (.readClaim r) :=
  fun _ => OperandsChecked.of_wf _

theorem OperandsChecked.readStack : ∀ r, OperandsChecked.Statement (.readStack r) :=
  fun _ => OperandsChecked.of_wf _

theorem OperandsChecked.readCue : ∀ r, OperandsChecked.Statement (.readCue r) :=
  fun _ => OperandsChecked.of_wf _

theorem OperandsChecked.readLine : ∀ r, OperandsChecked.Statement (.readLine r) :=
  fun _ => OperandsChecked.of_wf _

theorem OperandsChecked.readSource : ∀ r, OperandsChecked.Statement (.readSource r) :=
  fun _ => OperandsChecked.of_wf _

theorem OperandsChecked.readQueue : ∀ r, OperandsChecked.Statement (.readQueue r) :=
  fun _ => OperandsChecked.of_wf _

theorem OperandsChecked.readOverride : ∀ r, OperandsChecked.Statement (.readOverride r) :=
  fun _ => OperandsChecked.of_wf _

theorem OperandsChecked.readAlerts : ∀ r, OperandsChecked.Statement (.readAlerts r) :=
  fun _ => OperandsChecked.of_wf _

theorem OperandsChecked.clearClip : ∀ r, OperandsChecked.Statement (.clearClip r) :=
  fun _ => OperandsChecked.of_wf _

theorem OperandsChecked.setLevel : ∀ r, OperandsChecked.Statement (.setLevel r) :=
  fun _ => OperandsChecked.of_wf _

theorem OperandsChecked.setLevelsShort : ∀ r, OperandsChecked.Statement (.setLevelsShort r) :=
  fun _ => OperandsChecked.of_wf _

theorem OperandsChecked.setWindow : ∀ r, OperandsChecked.Statement (.setWindow r) :=
  fun _ => OperandsChecked.of_wf _

theorem OperandsChecked.setFill : ∀ r, OperandsChecked.Statement (.setFill r) :=
  fun _ => OperandsChecked.of_wf _

theorem OperandsChecked.setMaster : ∀ r, OperandsChecked.Statement (.setMaster r) :=
  fun _ => OperandsChecked.of_wf _

theorem OperandsChecked.take : ∀ r, OperandsChecked.Statement (.take r) :=
  fun _ => OperandsChecked.of_wf _

theorem OperandsChecked.copy : ∀ r, OperandsChecked.Statement (.copy r) :=
  fun _ => OperandsChecked.of_wf _

theorem OperandsChecked.storeCue : ∀ r, OperandsChecked.Statement (.storeCue r) :=
  fun _ => OperandsChecked.of_wf _

theorem OperandsChecked.storeCueHeader : ∀ r, OperandsChecked.Statement (.storeCueHeader r) :=
  fun _ => OperandsChecked.of_wf _

theorem OperandsChecked.deleteCue : ∀ r, OperandsChecked.Statement (.deleteCue r) :=
  fun _ => OperandsChecked.of_wf _

theorem OperandsChecked.setStack : ∀ r, OperandsChecked.Statement (.setStack r) :=
  fun _ => OperandsChecked.of_wf _

theorem OperandsChecked.go : ∀ r, OperandsChecked.Statement (.go r) :=
  fun _ => OperandsChecked.of_wf _

theorem OperandsChecked.arm : ∀ r, OperandsChecked.Statement (.arm r) :=
  fun _ => OperandsChecked.of_wf _

theorem OperandsChecked.halt : ∀ r, OperandsChecked.Statement (.halt r) :=
  fun _ => OperandsChecked.of_wf _

theorem OperandsChecked.resetStack : ∀ r, OperandsChecked.Statement (.resetStack r) :=
  fun _ => OperandsChecked.of_wf _

theorem OperandsChecked.releaseLevel : ∀ r, OperandsChecked.Statement (.releaseLevel r) :=
  fun _ => OperandsChecked.of_wf _

theorem OperandsChecked.claim : ∀ r, OperandsChecked.Statement (.claim r) :=
  fun _ => OperandsChecked.of_wf _

theorem OperandsChecked.unclaim : ∀ r, OperandsChecked.Statement (.unclaim r) :=
  fun _ => OperandsChecked.of_wf _

theorem OperandsChecked.ask : ∀ r, OperandsChecked.Statement (.ask r) :=
  fun _ => OperandsChecked.of_wf _

theorem OperandsChecked.yieldClaim : ∀ r, OperandsChecked.Statement (.yieldClaim r) :=
  fun _ => OperandsChecked.of_wf _

theorem OperandsChecked.dropClaim : ∀ r, OperandsChecked.Statement (.dropClaim r) :=
  fun _ => OperandsChecked.of_wf _

theorem OperandsChecked.setRole : ∀ r, OperandsChecked.Statement (.setRole r) :=
  fun _ => OperandsChecked.of_wf _

theorem OperandsChecked.setPage : ∀ r, OperandsChecked.Statement (.setPage r) :=
  fun _ => OperandsChecked.of_wf _

theorem OperandsChecked.setShotMap : ∀ r, OperandsChecked.Statement (.setShotMap r) :=
  fun _ => OperandsChecked.of_wf _

theorem OperandsChecked.setGuard : ∀ r, OperandsChecked.Statement (.setGuard r) :=
  fun _ => OperandsChecked.of_wf _

theorem OperandsChecked.setPatch : ∀ r, OperandsChecked.Statement (.setPatch r) :=
  fun _ => OperandsChecked.of_wf _

theorem OperandsChecked.setLine : ∀ r, OperandsChecked.Statement (.setLine r) :=
  fun _ => OperandsChecked.of_wf _

theorem OperandsChecked.setWallLink : ∀ r, OperandsChecked.Statement (.setWallLink r) :=
  fun _ => OperandsChecked.of_wf _

theorem OperandsChecked.setSource : ∀ r, OperandsChecked.Statement (.setSource r) :=
  fun _ => OperandsChecked.of_wf _

theorem OperandsChecked.setTransition : ∀ r, OperandsChecked.Statement (.setTransition r) :=
  fun _ => OperandsChecked.of_wf _

theorem OperandsChecked.setRoute : ∀ r, OperandsChecked.Statement (.setRoute r) :=
  fun _ => OperandsChecked.of_wf _

theorem OperandsChecked.setTiming : ∀ r, OperandsChecked.Statement (.setTiming r) :=
  fun _ => OperandsChecked.of_wf _

theorem OperandsChecked.setFrame : ∀ r, OperandsChecked.Statement (.setFrame r) :=
  fun _ => OperandsChecked.of_wf _

theorem OperandsChecked.setSafety : ∀ r, OperandsChecked.Statement (.setSafety r) :=
  fun _ => OperandsChecked.of_wf _

theorem OperandsChecked.lock : ∀ r, OperandsChecked.Statement (.lock r) :=
  fun _ => OperandsChecked.of_wf _

theorem OperandsChecked.saveImage : ∀ r, OperandsChecked.Statement (.saveImage r) :=
  fun _ => OperandsChecked.of_wf _

theorem OperandsChecked.showReset : ∀ r, OperandsChecked.Statement (.showReset r) :=
  fun _ => OperandsChecked.of_wf _

theorem OperandsChecked.byteCompleted : ∀ port byte, OperandsChecked.Statement (.byteCompleted port byte) :=
  fun _ _ => OperandsChecked.of_wf _

end Sys2Proof.Laws
end

