-- ==== Sys2Proof/Tests/Slice0.lean ====
section
/-! SUPPORT. The model's own tests: ill-formed commands that WellFormed refuses, one small step per command with its
outcome taken from the manual, and for each obligation with hypotheses a state and operands that meet them. -/

open Sys2Proof Sys2Proof.Machine

namespace Sys2Proof.Tests

-- One test after the other: many kernel evaluations at once want more threads than a small machine has.
set_option Elab.async false

/-! ### Helpers -/

/-- The state after a command. -/
def after (c : Instr) (s : State) : State :=
  match exec c s with
  | .next t => t
  | .fault _ => s
  | .refused _ => s

/-- The result and data of the reply that port `p` is sending. -/
def replyOf (p : Port) (s : State) : Option (ReplyCode × List Byte) :=
  match (s.ports.port[p]).tx with
  | some (.reply _ _ result _ data) => some (result, data)
  | _ => none

/-- A request of port 0 with tag 1. -/
def from0 (payload : List Byte) : Sys2Proof.Request := ⟨0, 1, payload⟩

/-- A request of port 1 with tag 1. -/
def from1 (payload : List Byte) : Sys2Proof.Request := ⟨1, 1, payload⟩

/-- The result of a request of port 0 on a state. -/
def answers (c : Instr) (s : State) : Option (ReplyCode × List Byte) := replyOf 0 (after c s)

/-- The state after a port 0 request whose reply has been sent. -/
def sent (c : Instr) (s : State) : State := after (.transmitEnd 0) (after c s)

def inputs : FrameIn := ⟨0, []⟩

def clockFrame : FrameEvent := ⟨.clock, inputs⟩

/-- One action of a cue: TAKE of set 2. -/
def takeTwo : List Byte := [4, 0, 2, 0, 0, 0, 0, 0, 0, 0, 0, 0]

/-- A GO cue of one action. -/
def goCue : List Byte := [0, 0, 0, 0, 0, 0, 0, 0, 0, 0, 1] ++ takeTwo

def goBody : CueBody := ⟨.go, 0, 0, 0, .none, 0, false, 0, [.take 2]⟩

/-- Stack 3 at level 1 with cue 7 in its list and a given record. -/
def withStack (r : StackRec) : State :=
  { State.reset with cue := { State.reset.cue with store := [⟨3, 7, goBody⟩], recs := State.reset.cue.recs.set 3 r } }

/-- A MARK owed. -/
def owed (s : State) : State := s.modRef fun r => { r with markDue := some 5 }

def standing (state : StackState) : StackRec := ⟨1, some 7, state, none, false, false, 0⟩

def held : Claim := ⟨1, .group 4, false, none⟩

def contested : Claim := ⟨1, .group 4, true, some ⟨2, 1⟩⟩

def withClaim9 (c : Claim) : State := State.reset.setClaim 9 (some c)

/-! ### WellFormed refuses -/

theorem test_wf_refuses_long_payload :
    Instr.wf (.setFrame ⟨0, 0, List.replicate 1021 0⟩) = false := by decide +kernel

theorem test_wf_refuses_short_body : Instr.wf (.frameReceived 0 [1] 0) = false := by decide

theorem test_wf_refuses_known_code : Instr.wf (.unknownRequest 0x27 (from0 [])) = false := by decide

theorem test_wf_refuses_cut_frame : Instr.wf (.sourceFrameComplete 0 ⟨2, 2, [⟨0, 0, 0, 0⟩]⟩) = false := by decide

theorem test_wf_refuses_wide_frame : Instr.wf (.sourceFrameComplete 0 ⟨3841, 1, []⟩) = false := by decide +kernel

theorem test_wf_refuses_header_as_record : Instr.wf (.storeCue (from0 [1, 0, 0, 5])) = false := by decide

theorem test_wf_refuses_empty_header : Instr.wf (.storeCueHeader (from0 [])) = false := by decide

theorem test_wf_accepts : Instr.wf (.go (from0 [3])) = true := by decide

/-! ### Formats: the check values of spec/10 and spec/12 -/

theorem test_crc16_check_value :
    crc16 [0x31, 0x32, 0x33, 0x34, 0x35, 0x36, 0x37, 0x38, 0x39] = 0x29B1 := by decide +kernel

theorem test_crc32_check_value :
    crc32 [0x31, 0x32, 0x33, 0x34, 0x35, 0x36, 0x37, 0x38, 0x39] = 0xCBF43926 := by decide +kernel

theorem test_no_word_spells_a_command : decodeTableWord 8 0x5A = none := rfl

/-! ### Reference Unit -/

theorem test_first_frame_is_one : (after (.localClockExpiry inputs) State.reset).ref.counter = 1 := by decide +kernel

theorem test_pulse_at_half_period_leads :
    (after (.referencePulse 30000 inputs) State.reset).ref.lead = 1 := by decide +kernel

theorem test_pulse_before_half_period_is_absorbed :
    (after (.referencePulse 29999 inputs) State.reset).ref.counter = 0 := by decide +kernel

theorem test_third_flywheel_window_loses_the_lock :
    (after .absorptionWindowClose
      (State.reset.modRef fun r => { r with lock := .locked, flywheel := 3 })).ref.lock = .free := by decide +kernel

theorem test_second_flywheel_window_keeps_the_lock :
    (after .absorptionWindowClose
      (State.reset.modRef fun r => { r with lock := .locked, flywheel := 2 })).ref.lock = .locked := by decide +kernel

theorem test_mark_is_issued : (after (.mark []) (owed State.reset)).ref.markDue = none := by decide +kernel

theorem test_past_wraps : Frame.isPast 0xFFFFFFFF 3 = true := by decide

theorem test_future_at_half_the_ring : Frame.isPast 0x80000000 0 = false := by decide

/-! ### Frame events of the blocks -/

theorem test_take_swap_sets_program :
    (after (.takeSwap clockFrame) { State.reset with scene := { State.reset.scene with trans := .pending 1 } }).scene.program
      = .b := by decide +kernel

theorem test_cut_ends_at_its_swap :
    (after (.transitionEnd clockFrame)
      { State.reset with scene := { State.reset.scene with trans := .pending 0 } }).scene.trans = .idle := by
  decide +kernel

theorem test_hold_limit_zero_goes_lost :
    ((⟨.locked, 0, 0, none, none⟩ : SourcePort).step) = (⟨.lost, 1, 0, none, none⟩, some .lost) := by decide

theorem test_source_hold_expiry :
    ((after (.sourceHoldExpiry clockFrame 2) { State.reset with wall := { State.reset.wall with
      sources := State.reset.wall.sources.set 2 ⟨.holding, 25, 25, none, none⟩ } }).wall.sources[2]).state = .lost := by
  decide +kernel

theorem test_source_frame_arrives :
    ((after (.sourceFrameComplete 1 ⟨1, 1, [⟨1, 2, 3, 4⟩]⟩) State.reset).wall.sources[1]).arrived.isSome = true := by
  decide +kernel

theorem test_source_frame_discard_keeps : after (.sourceFrameDiscard 1) State.reset = State.reset := rfl

theorem test_auto_yield_moves :
    ((after (.autoYield clockFrame 9) (withClaim9 contested)).access.claims[9]).map Claim.owner = some 2 := by
  decide +kernel

theorem test_handover_expires :
    ((after (.handoverExpiry clockFrame 9) (withClaim9 { contested with autoYield := false })).access.claims[9]).map
      Claim.contest = some none := by decide +kernel

/-- R50 on a window that measures 100 in full units of 16 against a filtered 0: a quarter of the way. -/
theorem test_luminance_filter : filterLum 0 (100 * 4) 4 = 400 := by decide

theorem test_scan_end_clears_the_scan :
    (after .scanEnd (after (.localClockExpiry inputs) State.reset)).wall.scan.isNone = true := by decide +kernel

/-- The channel of section 4.10.1, and that of 4.10.2 (its base 58000), on a computation with every record alike. -/
def worked (gain : Int) (group : GroupNo) (limit : Nat) (curve : OutCurve) : Computation :=
  { (default : Computation) with
    patch := Vector.replicate 1024 { PatchRec.blank with curve, limit, group, follow := some 7, gain, reference := 2048 }
    channels := Vector.replicate 1024 ⟨50000, 50, .linear⟩
    overrides := []
    masters := (Vector.replicate 16 256).set 3 192
    lum := Vector.replicate 32 2900 }

theorem test_fade_advances : (worked (-40) 3 60000 .square).fade 200 ⟨10000, 50000, 50, 19, .linear, .bank, 25200⟩ =
    ⟨10000, 50000, 50, 20, .linear, .bank, 26000⟩ := by decide +kernel

theorem test_output_of_the_stages : (worked (-40) 3 60000 .square).output 200
    ⟨10000, 50000, 50, 20, .linear, .bank, 26000⟩ = ⟨4891, false⟩ := by decide +kernel

theorem test_output_saturates_and_limits : (worked 300 5 62000 .linear).output 201
    ⟨58000, 58000, 0, 0, .linear, .bank, 58000⟩ = ⟨62000, true⟩ := by decide +kernel

/-- Section 4.10.3, computation 1003: an override's fade released at 32000. -/
theorem test_release_restarts :
    ({ worked 0 2 65535 .linear with channels := Vector.replicate 1024 ⟨20000, 9, .soft⟩, releaseFade := 4 }).fade 310
      ⟨20000, 60000, 10, 3, .linear, .override 6, 32000⟩ = ⟨32000, 20000, 4, 1, .linear, .bank, 29000⟩ := by
  decide +kernel

/-- The fade shapes of section 4.5, SOFT. -/
theorem test_soft_fade : [1, 2, 3, 4].map (fun k => fadeBase 0 40000 4 k .soft) = [6250, 20000, 33750, 40000] := by
  decide +kernel

theorem test_levels_ready_without_computation : (after .levelsReady State.reset).level.comp.isNone = true := by
  decide +kernel

/-- Section 5.2's table: 24 slots and a break of 88 microseconds make a packet of 1,200. -/
theorem test_packet_of_24_slots :
    pulsesLast (InFlight.pulses ⟨6, 24, 88, List.replicate 24 0⟩) = 1200 := by decide +kernel

/-- R79: start bit, eight data bits with the least significant first, two stop bits. -/
theorem test_byte_as_sent : (bytePulses 0x05).map Pulse.level =
    [.low, .high, .low, .high, .low, .low, .low, .low, .low, .high, .high] := by decide

/-- R79: the break is low, the mark-after-break high, the start bit low, and the line rests high after the packet. -/
theorem test_packet_levels : [87, 88, 99, 100, 1200].map (levelAt (InFlight.pulses ⟨6, 24, 88, List.replicate 24 0⟩)) =
    [.low, .high, .high, .low, .high] := by decide +kernel

theorem test_packet_end_leaves_idle :
    ((after (.packetEnd 4) (State.reset.modLine 4 fun l => { l with inFlight := some ⟨6, 24, 88, []⟩ })).lines[4]).lastPacket
      = some 6 := by
  decide +kernel

/-! ### MARK -/

theorem test_wait_expiry_fires :
    ((after (.waitExpiry [] 3) (owed (withStack (standing (.waiting 0))))).cue.recs[3]).state = .ended := by
  decide +kernel

theorem test_wait_expiry_takes :
    (after (.waitExpiry [] 3) (owed (withStack (standing (.waiting 0))))).scene.trans = .pending 2 := by
  decide +kernel

theorem test_chained_go_fires :
    (after (.chainedGo [] 3) (owed (withStack { standing .idle with chainedGo := true }))).scene.trans = .pending 2 := by
  decide +kernel

theorem test_repeat_fires_again :
    ((after (.repeatIntervalExpiry [] 3) (owed (withStack (standing (.repeating 2 0))))).cue.recs[3]).state
      = .repeating 1 0 := by decide +kernel

theorem test_arm_fires_on_its_target :
    (after (.armTarget [] 3) (owed (withStack (standing (.armed 1 0))))).scene.trans = .pending 2 := by decide +kernel

theorem test_arm_past_its_grace_expires :
    ((after (.armTarget [] 3) (owed (withStack (standing (.armed 0xFFFFFFF0 2))))).cue.recs[3]).state = .idle := by
  decide +kernel

theorem test_takeover_grant_sets_the_mask :
    (after (.takeoverGrant []) (owed (withStack { standing (.waiting 0) with level := 6 }))).takeover.mask = 6 := by
  decide +kernel

def queued : Deferred := { write := .master 4 77, origin := .port 1 }

def withQueue : State := { State.reset with tally := { State.reset.tally with queue := [queued] } }

theorem test_defer_apply_writes : ((after (.deferApply []) (owed withQueue)).level.masters[4]) = 77 := by
  decide +kernel

theorem test_emergency_pushes_safety :
    (after (.emergencyInputChange true) State.reset).takeover.mask = 8 := by decide +kernel

/-! ### Control ports -/

/-- SET_SAFETY(SET) with tag 1 as spec/12 spells it: code 24, tag, one byte. -/
def safetyBody : List Byte := [0x24, 0x01, 0x01]

theorem test_frame_received_is_taken :
    (after (.frameReceived 0 safetyBody (crc16 (u16 3 ++ safetyBody))) State.reset).takeover.latch = true := by
  decide +kernel

theorem test_bad_crc_is_counted :
    ((after (.frameReceived 0 safetyBody (crc16 (u16 3 ++ safetyBody) ^^^ 1)) State.reset).ports.port[0]).errors.crc
      = 1 := by decide +kernel

theorem test_start_byte : ((after (.byteCompleted 2 0xC3) State.reset).ports.port[2]).receiver = .length none := by
  decide +kernel

theorem test_stray_byte : ((after (.byteCompleted 2 0x3C) State.reset).ports.port[2]).errors.stray = 1 := by
  decide +kernel

theorem test_gap_in_hunt_is_not_counted : ((after (.gap 1) State.reset).ports.port[1]).errors.gap = 0 := by
  decide +kernel

theorem test_framing_in_hunt_is_counted : ((after (.framing 1) State.reset).ports.port[1]).errors.framing = 1 := by
  decide +kernel

theorem test_break_is_counted : ((after (.lineBreak 1) State.reset).ports.port[1]).errors.breaks = 1 := by
  decide +kernel

theorem test_second_request_waits :
    ((after (.take (from0 [])) (after (.copy (from0 [])) State.reset)).ports.port[0]).queue.length = 1 := by
  decide +kernel

theorem test_queued_request_is_taken_next :
    (after (.transmitEnd 0) (after (.take (from0 [3])) (after (.copy (from0 [])) State.reset))).scene.trans
      = .pending 3 := by decide +kernel

theorem test_unknown_code_is_format :
    answers (.unknownRequest 0x28 (from0 [])) State.reset = some (.format, []) := by decide +kernel

theorem test_operator_is_refused_role :
    replyOf 1 (after (.setFrame (from1 [0, 0, 0, 9])) State.reset) = some (.role, []) := by decide +kernel

/-- A push port with an empty alert set that receives an alert sends a notice at once when IDLE (R183). -/
def pushing : State := State.reset.modPort 0 fun x => { x with pushFlag := true }

theorem test_notice_starts_at_once :
    ((after (.emergencyInputChange true) pushing).ports.port[0]).tx = some (.notice 0 0x040000) := by decide +kernel

def owing : State := State.reset.modPort 0 fun x => { x with tx := some (.overrun 1 2 3), noticeOwed := true }

theorem test_alert_notice :
    ((after (.alertNotice 0) owing).ports.port[0]).tx = some (.notice 0 0) := by decide +kernel

def overrunning : State :=
  State.reset.modPort 0 fun x => { x with tx := some (.overrun 1 2 3), overruns := [⟨0x09, 5, 6⟩] }

theorem test_overrun_reply :
    ((after (.overrunReply 0) overrunning).ports.port[0]).tx = some (.overrun 0x09 5 6) := by decide +kernel

def rateWaits : State :=
  State.reset.modPort 0 fun x => { x with tx := some (.overrun 1 2 3), pendingRate := some ⟨.r3000000, some 0⟩ }

theorem test_port_rate_change :
    ((after (.portRateChange 0) rateWaits).ports.port[0]).rate = .r3000000 := by decide +kernel

/-! ### Requests -/

theorem test_read_status_starts_with_counter :
    ((answers (.readStatus (from0 [0, 0, 0])) State.reset).map fun x => x.2.take 5) = some [0, 0, 0, 0, 1] := by
  decide +kernel

theorem test_read_channel_is_37_bytes :
    ((answers (.readChannel (from0 [0, 3, 255])) State.reset).map fun x => x.2.length) = some 37 := by decide +kernel

theorem test_read_window_above_31_is_range :
    answers (.readWindow (from0 [0, 0, 32])) State.reset = some (.range, []) := by decide +kernel

theorem test_read_free_claim_is_not_found :
    answers (.readClaim (from0 [0, 0, 0])) State.reset = some (.notFound, []) := by decide +kernel

theorem test_read_stack_at_end :
    ((answers (.readStack (from0 [0, 0, 5])) State.reset).map fun x => x.2.take 4) = some [1, 0, 0, 4] := by
  decide +kernel

theorem test_read_cue :
    answers (.readCue (from0 [3, 0, 7])) (withStack (standing .idle)) = some (.ok, goCue) := by decide +kernel

theorem test_read_line_rearms :
    ((after (.readLine (from0 [0, 0, 2])) (State.reset.modLine 2 fun l => { l with skipArmed := false })).lines[2]).skipArmed
      = true := by decide +kernel

theorem test_read_source_absent :
    answers (.readSource (from0 [0, 0, 3])) State.reset = some (.ok, [0, 0, 0, 0, 25, 0, 0, 0, 0]) := by decide +kernel

theorem test_read_queue_empty : answers (.readQueue (from0 [0, 0, 0])) State.reset = some (.notFound, []) := by
  decide +kernel

theorem test_read_override_none :
    answers (.readOverride (from0 [1, 0, 9])) State.reset = some (.notFound, []) := by decide +kernel

theorem test_read_alerts_sets_push :
    ((after (.readAlerts (from0 [1])) State.reset).ports.port[0]).pushFlag = true := by decide +kernel

theorem test_clear_clip :
    (after (.clearClip (from0 [])) { State.reset with level := { State.reset.level with clipFlags := 5 } }).level.clipFlags
      = 0 := by decide +kernel

/-- SET_LEVEL of channel 5 of the program bank to 1000 with fade 50. -/
theorem test_set_level :
    (((after (.setLevel (from0 [0, 0, 5, 0, 5, 3, 232, 1, 0, 50, 0])) State.reset).scene.bankA.channels[5]).level,
     ((after (.setLevel (from0 [0, 0, 5, 0, 5, 3, 232, 1, 0, 50, 0])) State.reset).scene.bankA.channels[5]).fade)
      = (1000, 50) := by decide +kernel

theorem test_set_level_first_above_last_is_format :
    answers (.setLevel (from0 [0, 0, 6, 0, 5, 3, 232, 0, 0, 0, 0])) State.reset = some (.format, []) := by
  decide +kernel

theorem test_set_levels_short_uses_the_page :
    ((after (.setLevelsShort (from0 [1, 0, 0, 7, 0, 9])) (sent (.setPage (from0 [2])) State.reset)).scene.bankB.channels[519]).level
      = 9 := by decide +kernel

theorem test_set_window_swaps_coordinates :
    ((after (.setWindow (from0 [0, 4, 0, 2, 0, 9, 0, 8, 0, 3, 0, 2])) State.reset).scene.bankA.windows[4]).x1 = 9 := by
  decide +kernel

theorem test_set_fill : (after (.setFill (from0 [1, 1, 2, 3])) State.reset).scene.bankB.fill = ⟨1, 2, 3⟩ := by
  decide +kernel

theorem test_set_master_clamps : ((after (.setMaster (from0 [15, 2, 0])) State.reset).level.masters[15]) = 256 := by
  decide +kernel

theorem test_take_without_set : (after (.take (from0 [])) State.reset).scene.trans = .pending 0 := by decide +kernel

theorem test_take_twice_is_done_early :
    answers (.take (from0 [1])) (sent (.take (from0 [])) State.reset) = some (.doneEarly, []) := by decide +kernel

theorem test_copy_is_busy_in_flight :
    answers (.copy (from0 [])) { State.reset with scene := { State.reset.scene with
      trans := .running ⟨1, 25, .linear, 3, .b, false⟩ } } = some (.busy, []) := by decide +kernel

theorem test_store_cue : ((after (.storeCue (from0 ([3, 0, 7] ++ goCue))) State.reset).cue.find 3 7).map Cue.body
    = some goBody := by decide +kernel

theorem test_store_cue_header_sets_level :
    ((after (.storeCueHeader (from0 [3, 5])) State.reset).cue.recs[3]).level = 5 := by decide +kernel

theorem test_delete_cue_ends_its_stack :
    ((after (.deleteCue (from0 [3, 0, 7])) (withStack (standing (.armed 9 2)))).cue.recs[3]).state = .ended := by
  decide +kernel

theorem test_set_stack_level_eight_is_range :
    answers (.setStack (from0 [3, 8])) State.reset = some (.range, []) := by decide +kernel

theorem test_go_at_end : answers (.go (from0 [3])) State.reset = some (.atEnd, []) := by decide +kernel

theorem test_go_suspended :
    answers (.go (from0 [3])) (after (.emergencyInputChange true) (withStack (standing .idle)))
      = some (.suspended, []) := by decide +kernel

theorem test_arm_takes_the_default_grace :
    ((after (.arm (from0 [3, 0, 0, 0, 9])) (withStack (standing .idle))).cue.recs[3]).state = .armed 9 2 := by
  decide +kernel

theorem test_arm_on_a_past_frame_is_late :
    answers (.arm (from0 [3, 0, 0, 0, 0])) (withStack (standing .idle)) = some (.late, []) := by decide +kernel

theorem test_halt_drops_the_arm :
    ((after (.halt (from0 [3])) (withStack (standing (.armed 9 2)))).cue.recs[3]).state = .idle := by decide +kernel

theorem test_reset_stack_finds_the_first_cue :
    ((after (.resetStack (from0 [3])) (withStack (StackRec.start 1))).cue.recs[3]).position = some 7 := by
  decide +kernel

def holding6 : State :=
  (withStack { standing .idle with level := 6 }).setEntries [.level 6 3]

theorem test_release_level_empties_the_mask :
    (after (.releaseLevel (from0 [6, 0, 25])) holding6).takeover.mask = 0 := by decide +kernel

theorem test_release_level_not_found :
    answers (.releaseLevel (from0 [6, 0, 25])) State.reset = some (.notFound, []) := by decide +kernel

theorem test_claim_takes_id_zero :
    answers (.claim (from0 [2, 0, 4])) State.reset = some (.ok, [0]) := by decide +kernel

theorem test_claim_conflicts :
    answers (.claim (from0 [2, 0, 4])) (withClaim9 held) = some (.conflict, []) := by decide +kernel

theorem test_unclaim_of_another_is_denied :
    answers (.unclaim (from0 [9])) (withClaim9 held) = some (.denied, [9]) := by decide +kernel

theorem test_ask_is_pending :
    answers (.ask (from0 [9])) (withClaim9 held) = some (.pending, [0, 0, 0, 250]) := by decide +kernel

theorem test_yield_of_held_is_not_contested :
    answers (.yieldClaim (from0 [9])) (withClaim9 { held with owner := 0 }) = some (.notContested, []) := by
  decide +kernel

theorem test_drop_claim_frees : ((after (.dropClaim (from0 [9])) (withClaim9 held)).access.claims[9]) = none := by
  decide +kernel

theorem test_last_engineer_stays : answers (.setRole (from0 [0, 1])) State.reset = some (.lastEngineer, []) := by
  decide +kernel

theorem test_page_four_is_range : answers (.setPage (from0 [4])) State.reset = some (.range, []) := by decide +kernel

theorem test_set_shot_map : ((after (.setShotMap (from0 [15, 0, 0, 0, 3, 0, 1])) State.reset).tally.shotMap[15]) = ⟨3, 1⟩ := by
  decide +kernel

theorem test_set_guard_with_an_empty_set_is_format :
    answers (.setGuard (from0 [0, 0, 0, 0, 0, 1])) State.reset = some (.format, []) := by decide +kernel

theorem test_lock_stops_set_guard :
    answers (.setGuard (from0 [0, 0, 0, 0, 1, 1])) (sent (.lock (from0 [1])) State.reset) = some (.locked, []) := by
  decide +kernel

theorem test_set_patch_curve :
    ((after (.setPatch (from0 [0, 1, 2, 1])) State.reset).level.patch[1]).curve = .square := by decide +kernel

/-- A 16-bit channel at slot 24 needs slot 25, which a line of 24 slots does not have (R55). -/
theorem test_set_patch_above_the_line_conflicts :
    answers (.setPatch (from0 [0, 1, 1, 0, 0, 24, 2, 0])) (State.reset.modLine 0 fun l => { l with slots := 24 })
      = some (.conflict, []) := by decide +kernel

def patched25 : State :=
  { State.reset with level := { State.reset.level with
    patch := State.reset.level.patch.set 1 { PatchRec.blank with line := some 0, slot := 24, width := 2 } } }

theorem test_set_line_below_the_patch_conflicts :
    answers (.setLine (from0 [0, 2, 0, 0, 24, 0, 0])) patched25 = some (.conflict, []) := by decide +kernel

theorem test_set_wall_link_clamps :
    ((after (.setWallLink (from0 [3, 1, 255, 255, 0, 0, 0, 9, 0, 9, 0, 0, 0])) State.reset).wall.links[3]).width = 1 := by
  decide +kernel

theorem test_set_source_clamps : ((after (.setSource (from0 [1, 1, 0])) State.reset).wall.sources[1]).holdLimit = 255 := by
  decide +kernel

theorem test_set_transition_zero_is_one :
    ((after (.setTransition (from0 [2, 1, 0, 0, 0])) State.reset).wall.sets[2]).duration = 1 := by decide +kernel

theorem test_set_route_of_handover_ask_is_format :
    answers (.setRoute (from0 [14, 1])) State.reset = some (.format, []) := by decide +kernel

theorem test_set_timing_leaves_the_frame_in_progress :
    (after (.setTiming (from0 [1, 0, 0, 0, 0, 0, 0, 0, 0, 0])) State.reset).ref.frameRate = .r50 := by decide +kernel

theorem test_set_frame : (after (.setFrame (from0 [0, 1, 0, 2])) State.reset).ref.counter = 65538 := by decide +kernel

theorem test_save_image_makes_the_image_invalid :
    (after (.saveImage (from0 [])) { State.reset with image := ⟨some [], true, true, none⟩ }).image.valid = false := by
  decide +kernel

theorem test_show_reset_keeps_safety :
    (after (.showReset (from0 [])) (after (.emergencyInputChange true) holding6)).takeover.stack = [.safety] := by
  decide +kernel

theorem test_set_safety_under_the_input_changes_no_entry :
    (after (.setSafety (from0 [1])) (after (.emergencyInputChange true) State.reset)).takeover.stack = [.safety] := by
  decide +kernel

/-! ### Image Store -/

def saving : Saving := ⟨2, 7, .defaults⟩

def writing : State := { State.reset with image := ⟨none, false, true, some saving⟩ }

theorem test_save_completion_is_valid : (after .saveCompletion writing).image.valid = true := by decide +kernel

theorem test_save_failure_tells_the_port :
    (((after .saveVerifyFailure writing).ports.port[2]).alerts[21]).map AlertEntry.alert
      = some (.imageFail 7 0 .verify) := by decide +kernel

theorem test_save_timeout_tells_the_port :
    (((after .saveTimeout writing).ports.port[2]).alerts[21]).map AlertEntry.alert
      = some (.imageFail 7 0 .timeout) := by decide +kernel

theorem test_hard_reset_without_image : (after (.hardReset true) writing).takeover.mask = 8 := by decide +kernel

/-! ### States and operands that meet the hypotheses of the obligations -/

/-- Port 0 with its receiver in a given state. -/
def receiving (r : Receiver) : State := State.reset.setReceiver 0 r

/-- Port 0 SENDING, with the given queue and owed OVERRUN replies. -/
def sending (queue : List Queued) (overruns : List Overrun) : State :=
  State.reset.modPort 0 fun x => { x with tx := some (.overrun 1 2 3), queue := queue, overruns := overruns }

/-- The state after reset with one command waiting. -/
def waitingFor (c : Instr) : State := { State.reset with pending := [c] }

/-- A quiet state whose port 0 takes its next request at once. -/
theorem witness_quiet_ready_engineer :
    State.reset.quiet ∧ State.reset.ready 0 ∧ State.reset.access.roles[(0 : Port)] = .engineering := by
  unfold State.quiet State.ready
  decide +kernel

theorem witness_ShowResetClearsTheShow :
    State.reset.quiet ∧ State.reset.ready 0 ∧ State.reset.access.roles[(0 : Port)] = .engineering :=
  witness_quiet_ready_engineer

/-- A taken level and a contested claim: port 0 hears of the level, port 2 of the claim, and port 1 of neither. -/
theorem witness_ShowResetClearsTheShow_alerts :
    let s := (holding6.setClaim 9 (some contested))
    s.quiet ∧ s.ready 0 ∧ s.access.roles[(0 : Port)] = .engineering ∧ (∃ e ∈ s.takeover.stack, e ≠ PreEntry.safety) ∧
      (∀ e ∈ State.reset.takeover.stack, e = PreEntry.safety) ∧ (s.ports.routing[13]).getLsbD 0 = true ∧
      (s.ports.routing[13]).getLsbD 1 = false ∧
      ((s.access.claims[(9 : ClaimId)]).bind Claim.contest).map Contest.waiting = some 2 ∧
      s.takeover.inForce = false := by
  unfold State.quiet State.ready
  decide +kernel

theorem witness_StepRunsFrontCommand : (waitingFor .scanEnd).pending = .scanEnd :: [] := rfl

theorem witness_ReceiverTakesBytes :
    (receiving .hunt).quiet ∧ ((receiving .hunt).ports.port[(0 : Port)]).receiver = .hunt ∧ (0xC2 : Byte) ≠ 0xC3 ∧
      (receiving (.length none)).quiet ∧ ((receiving (.length none)).ports.port[(0 : Port)]).receiver = .length none ∧
      (receiving (.length (some 3))).quiet ∧
      ((receiving (.length (some 3))).ports.port[(0 : Port)]).receiver = .length (some 3) ∧
      be16 0 2 = 2 ∧ be16 3 0xFE = 1022 ∧ be16 0 1 < 2 ∧ 1022 < be16 3 0xFF ∧
      (receiving (.body 2 [])).quiet ∧ ((receiving (.body 2 [])).ports.port[(0 : Port)]).receiver = .body 2 [] ∧
      (receiving (.body 2 [1])).quiet ∧ ((receiving (.body 2 [1])).ports.port[(0 : Port)]).receiver = .body 2 [1] ∧
      (receiving (.check [1, 2] none)).quiet ∧
      ((receiving (.check [1, 2] none)).ports.port[(0 : Port)]).receiver = .check [1, 2] none ∧
      (receiving (.check [1, 2] (some 3))).quiet ∧
      ((receiving (.check [1, 2] (some 3))).ports.port[(0 : Port)]).receiver = .check [1, 2] (some 3) := by
  unfold State.quiet
  decide +kernel

theorem witness_BytesMakeTheFrame :
    let s : State := { State.reset with pending := (frameOf safetyBody).map (Instr.byteCompleted 0) ++ [.scanEnd] }
    s.quiet ∧ (s.ports.port[(0 : Port)]).receiver = .hunt ∧ 2 ≤ safetyBody.length ∧ safetyBody.length ≤ 1022 ∧
      s.pending = (frameOf safetyBody).map (Instr.byteCompleted 0) ++ [.scanEnd] := by
  unfold State.quiet
  decide +kernel

theorem witness_FrameReceivedResults :
    let q : Queued := ⟨9, 0, []⟩
    let o : Overrun := ⟨9, 0, 1⟩
    State.reset.quiet ∧ State.reset.ready 0 ∧ crc16 (u16 3 ++ safetyBody) ≠ crc16 (u16 3 ++ safetyBody) ^^^ 1 ∧
      (sending [q, q, q] []).quiet ∧ ((sending [q, q, q] []).ports.port[(0 : Port)]).queue.length < 4 ∧
      (sending [q, q, q, q] [o, o, o]).quiet ∧ 4 ≤ ((sending [q, q, q, q] [o, o, o]).ports.port[(0 : Port)]).queue.length ∧
      ((sending [q, q, q, q] [o, o, o]).ports.port[(0 : Port)]).overruns.length < 4 ∧
      (sending [q, q, q, q] [o, o, o, o]).quiet ∧
      4 ≤ ((sending [q, q, q, q] [o, o, o, o]).ports.port[(0 : Port)]).overruns.length ∧
      ((sending [q, q, q, q] [o, o, o, o]).ports.port[(0 : Port)]).tx = some (.overrun 1 2 3) := by
  unfold State.quiet State.ready
  decide +kernel

theorem witness_LineErrors :
    ((receiving (.check [1, 2] none)).ports.port[(0 : Port)]).receiver ≠ .hunt ∧
      (State.reset.ports.port[(0 : Port)]).receiver = .hunt := by decide +kernel

theorem witness_RequestRowIsItsFrame :
    Instr.wf (.storeCueHeader (from0 [3, 5])) = true ∧
      Instr.wire (.storeCueHeader (from0 [3, 5])) = some (0, [0x0B, 1, 3, 0, 0, 5]) ∧
      Instr.wf (.readStatus (from0 [])) = true ∧ Instr.wire (.readStatus (from0 [])) = some (0, [1, 1, 0]) := by
  decide

def patchLocked : State := { State.reset with access := { State.reset.access with patchLock := true } }

def shotLocked : State := { State.reset with access := { State.reset.access with shotLock := true } }

theorem witness_RequestsAreRefused :
    State.reset.quiet ∧ State.reset.ready 1 ∧ State.reset.access.roles[(1 : Port)] = .operator ∧
      engineering 0x17 = true ∧ engineering 0x27 = true ∧ Instr.wf (.dropClaim (from1 [])) = true ∧
      Instr.wire (.dropClaim (from1 [])) = some (1, [0x17, 1]) ∧
      patchLocked.quiet ∧ patchLocked.ready 0 ∧ patchLocked.access.roles[(0 : Port)] = .engineering ∧
      patchLocked.access.patchLock = true ∧ Instr.wire (.setPatch (from0 [])) = some (0, [0x1C, 1]) ∧
      shotLocked.quiet ∧ shotLocked.ready 0 ∧ shotLocked.access.roles[(0 : Port)] = .engineering ∧
      shotLocked.access.shotLock = true ∧ Instr.wire (.setGuard (from0 [])) = some (0, [0x1B, 1]) ∧
      0x27 < (0x28 : Byte).toNat := by
  unfold State.quiet State.ready
  decide +kernel

theorem witness_ClaimsDenyOtherPorts_only (c : Claim) (id : ClaimId) :
    (State.reset.setClaim id (some c)).access.claims[id] = some c ∧
      ∀ j : ClaimId, j ≠ id → (State.reset.setClaim id (some c)).access.claims[j] = none := by
  refine ⟨Vector.getElem_set_self _, fun j hj => ?_⟩
  have hv : id.val ≠ j.val := fun e => hj (Fin.ext e.symm)
  have h := Vector.getElem_set_ne (xs := State.reset.access.claims) (x := some c) id.isLt j.isLt hv
  exact h.trans (Vector.getElem_replicate (n := 64) (a := (none : Option Claim)) j.isLt)

theorem witness_ClaimsDenyOtherPorts :
    (withClaim9 held).quiet ∧ (withClaim9 held).ready 0 ∧ (1 : Port) ≠ 0 ∧ held.owner = 1 ∧ held.range = .group 4 ∧
      (withClaim9 ⟨1, .stack 3, false, none⟩).quiet ∧ (withClaim9 ⟨1, .stack 3, false, none⟩).ready 0 ∧
      (withClaim9 ⟨1, .windows 0x80000000, false, none⟩).quiet ∧ (0x80000000 : WindowSet).getLsbD 31 = true ∧
      (withClaim9 ⟨1, .channels 7 9, false, none⟩).quiet ∧ (7 : ChannelNo) ≤ 9 ∧ be16 0 9 ≤ 9 ∧ 9 ≤ be16 0 20 := by
  unfold State.quiet State.ready
  decide +kernel

theorem witness_TransmitterArbitrates :
    owing.quiet ∧ (owing.ports.port[(0 : Port)]).tx = some (.overrun 1 2 3) ∧
      (owing.ports.port[(0 : Port)]).noticeOwed = true ∧ (∀ q : Port, (owing.ports.port[q]).pendingRate = none) ∧
      overrunning.quiet ∧ (overrunning.ports.port[(0 : Port)]).overruns = ⟨9, 5, 6⟩ :: [] ∧
      (sending [⟨9, 0, []⟩] []).quiet ∧ ((sending [⟨9, 0, []⟩] []).ports.port[(0 : Port)]).queue = ⟨9, 0, []⟩ :: [] ∧
      (sending [] []).quiet ∧ ((sending [] []).ports.port[(0 : Port)]).queue = [] ∧
      rateWaits.quiet ∧ (rateWaits.ports.port[(0 : Port)]).pendingRate = some ⟨.r3000000, some 0⟩ ∧
      (∀ q : Port, q ≠ 0 → (rateWaits.ports.port[q]).pendingRate = none) ∧
      (rateWaits.ports.port[(0 : Port)]).noticeOwed = false ∧ (rateWaits.ports.port[(0 : Port)]).overruns = [] ∧
      (rateWaits.ports.port[(0 : Port)]).queue = [] := by
  unfold State.quiet
  decide +kernel

/-- Port 2's new rate waits for the reply on port 0. -/
def otherRateWaits : State := (sending [] []).modPort 2 fun x => { x with pendingRate := some ⟨.r460800, some 0⟩ }

theorem witness_TransmitterArbitrates_other_port :
    otherRateWaits.quiet ∧ (otherRateWaits.ports.port[(2 : Port)]).pendingRate = some ⟨.r460800, some 0⟩ ∧
      (∀ q : Port, q ≠ 2 → (otherRateWaits.ports.port[q]).pendingRate = none) ∧
      (otherRateWaits.ports.port[(2 : Port)]).tx = none := by
  unfold State.quiet
  decide +kernel

theorem witness_PortsStaySettled :
    (waitingFor (.take (from0 []))).settled ∧ ∃ t, step (waitingFor (.take (from0 []))) = .next t := by
  refine ⟨?_, _, rfl⟩
  unfold State.settled State.ready
  decide +kernel

theorem witness_AlertsEnterTheSets : (0b0101 : PortSet).getLsbD 0 = true ∧ (0b0101 : PortSet).getLsbD 1 = false := by
  decide

theorem witness_FrameEventsStartFrames : State.reset.ref.frameRate.half ≤ 30000 := by decide +kernel

/-- A Reference Unit whose window has closed. -/
def closed (lock : LockState) (lead flywheel : Nat) : State :=
  State.reset.modRef fun r => { r with windowOpen := false, lock := lock, lead := lead, flywheel := flywheel }



/-- An open window with the given origin, lock state and counts. -/
def opened (origin : Origin) (lock : LockState) (lead flywheel : Nat) : State :=
  State.reset.modRef fun r => { r with origin := origin, lock := lock, lead := lead, flywheel := flywheel }

theorem witness_LockAccountingAtFrames :
    (closed .locked 0 2).ref.windowOpen = false ∧ (closed .locked 0 2).ref.lock = .locked ∧
      (closed .free 0 0).ref.windowOpen = false ∧ (closed .free 0 0).ref.lock = .free ∧
      (closed .free 1 0).ref.windowOpen = false ∧ 1 ≤ (closed .free 1 0).ref.lead ∧
      (closed .free 1 0).ref.frameRate.half ≤ 30000 ∧
      (∃ t, exec (.localClockExpiry inputs) (closed .locked 0 2) = .next t) ∧
      (∃ t, exec (.referencePulse 30000 inputs) (closed .free 1 0) = .next t) := by
  refine ⟨rfl, rfl, rfl, rfl, rfl, Nat.le_refl 1, Nat.le_refl 30000, ⟨_, rfl⟩, ?_⟩
  exact ⟨_, rfl⟩

/-- A frame event that closes an open window itself: after two flywheel frames and after three, in a frame that a pulse
backed, and in FREE with either origin. -/
theorem witness_LockAccountingAtFrames_open :
    (∀ s ∈ [opened .clock .locked 0 2, opened .clock .locked 0 3, opened .pulse .locked 0 0, opened .clock .free 1 0,
        opened .pulse .free 0 0, opened .pulse .free 1 0],
      s.ref.windowOpen = true ∧ s.ref.frameRate.half ≤ 30000) ∧
    (∀ s : State, (∃ t, exec (.localClockExpiry inputs) s = .next t) ∧
      ∃ t, exec (.referencePulse 30000 inputs) s = .next t) := by
  refine ⟨by decide +kernel, fun s => ⟨⟨_, rfl⟩, ?_⟩⟩
  by_cases h : s.leads (.pulse 30000) = true <;> simp [exec, execReferencePulse, h, State.done]

theorem witness_LockAccountingWithinFrames :
    State.reset.quiet ∧ 29999 < State.reset.ref.frameRate.half ∧ (opened .pulse .locked 0 0).ref.origin = .pulse ∧
      (opened .clock .locked 0 3).ref.lock = .locked ∧ (opened .clock .locked 0 3).ref.flywheel = 3 ∧
      (opened .clock .locked 0 2).ref.flywheel ≤ 2 ∧ (opened .clock .free 0 0).ref.lead = 0 ∧
      (opened .clock .free 1 0).ref.lock = .free ∧ 1 ≤ (opened .clock .free 1 0).ref.lead ∧
      (opened .clock .free 1 0).ref.windowOpen = true ∧ (closed .free 0 0).ref.windowOpen = false ∧
      (opened .pulse .locked 0 0).quiet ∧ (opened .clock .locked 0 3).quiet ∧ (opened .clock .locked 0 2).quiet ∧
      (opened .clock .free 1 0).quiet ∧ (closed .free 0 0).quiet := by
  unfold State.quiet
  decide +kernel

theorem witness_LockCountsStayLegal :
    (waitingFor (.localClockExpiry inputs)).ref.legal ∧ ∃ t, step (waitingFor (.localClockExpiry inputs)) = .next t := by
  refine ⟨?_, _, rfl⟩
  unfold RefUnit.legal
  decide +kernel

theorem witness_MarkIsIssuedOnce :
    (owed State.reset).ref.markDue = some 5 ∧ State.reset.quiet ∧ State.reset.ref.markDue = none := by
  unfold State.quiet
  decide +kernel

/-- A transition context. -/
def inTransition (t : Transition) : State := { State.reset with scene := { State.reset.scene with trans := t } }

theorem witness_TransitionsAtFrames :
    (inTransition (.pending 1)).leads clockFrame.cause = true ∧ (inTransition (.pending 1)).scene.trans = .pending 1 ∧
      (inTransition (.pending 0)).leads clockFrame.cause = true ∧ (inTransition (.pending 0)).scene.trans = .pending 0 ∧
      ((inTransition (.pending 0)).wall.sets[(0 : SetNo)]).duration ≤ 1 ∧
      (inTransition (.running ⟨1, 25, .linear, 24, .a, false⟩)).scene.trans = .running ⟨1, 25, .linear, 24, .a, false⟩ ∧
      (inTransition (.running ⟨1, 25, .linear, 2, .a, true⟩)).scene.trans = .running ⟨1, 25, .linear, 2, .a, true⟩ ∧
      (inTransition (.running ⟨1, 25, .linear, 23, .a, false⟩)).scene.trans = .running ⟨1, 25, .linear, 23, .a, false⟩ ∧
      (inTransition (.running ⟨1, 25, .linear, 23, .a, false⟩)).ref.markDue = none ∧ 23 + 1 < 25 ∧
      (inTransition .idle).scene.trans = .idle ∧ (inTransition .idle).ref.markDue = none ∧
      (inTransition .idle).leads (.pulse 30000) = true := by
  decide +kernel

/-- Source port 2 about to become LOST, with port 0 about to hold and port 3 back from LOST. -/
def losing : State :=
  { State.reset with wall := { State.reset.wall with
    sources := #v[⟨.locked, 0, 25, none, none⟩, State.reset.wall.sources[1], ⟨.holding, 25, 25, none, none⟩,
      ⟨.lost, 3, 2, none, some ⟨1, 1, [⟨0, 9, 9, 9⟩]⟩⟩] } }

theorem witness_SourcePortsStep :
    losing.leads clockFrame.cause = true ∧ ((losing.wall.sources[(2 : SourceNo)]).step).2 = some .lost ∧
      (⟨.lost, 3, 2, none, some ⟨1, 1, []⟩⟩ : SourcePort).arrived = some ⟨1, 1, []⟩ ∧
      (⟨.absent, 3, 2, none, none⟩ : SourcePort).arrived = none ∧
      (⟨.locked, 0, 1, none, none⟩ : SourcePort).holdLimit = 1 ∧ (⟨.locked, 0, 0, none, none⟩ : SourcePort).holdLimit = 0 ∧
      (⟨.holding, 1, 2, none, none⟩ : SourcePort).holdCount + 1 ≤ 2 ∧
      2 < (⟨.holding, 2, 2, none, none⟩ : SourcePort).holdCount + 1 ∧
      (⟨.lost, 3, 2, none, none⟩ : SourcePort).state = .lost := by decide +kernel

/-- The ports that hold and come back, a port that is not lost, and a port in each of the three routing sets. -/
theorem witness_SourcePortsStep_alerts :
    (losing.wall.sources[(0 : SourceNo)]).step.2 = some .hold ∧
      (losing.wall.sources[(3 : SourceNo)]).step.2 = some .back ∧
      (losing.wall.sources[(1 : SourceNo)]).step.2 ≠ some .lost ∧ losing.quiet ∧
      (losing.ports.routing[2]).getLsbD 0 = true ∧ (losing.ports.routing[3]).getLsbD 0 = true ∧
      (losing.ports.routing[4]).getLsbD 0 = true := by
  unfold State.quiet
  decide +kernel

/-- Frame events led by the clock and by a pulse, and every case of the transition context. -/
theorem witness_FrameTakesItsInputs :
    State.reset.leads clockFrame.cause = true ∧ State.reset.leads (.pulse 30000) = true ∧
      State.reset.scene.trans = .idle ∧ State.reset.ref.markDue = none ∧
      (inTransition (.pending 0)).scene.trans = .pending 0 ∧
      ((inTransition (.pending 0)).wall.sets[(0 : SetNo)]).duration ≤ 1 ∧
      (inTransition (.pending 1)).scene.trans = .pending 1 ∧ (inTransition (.pending 1)).ref.markDue = none ∧
      2 ≤ ((inTransition (.pending 1)).wall.sets[(1 : SetNo)]).duration ∧
      (inTransition (.running ⟨1, 25, .linear, 23, .a, false⟩)).scene.trans = .running ⟨1, 25, .linear, 23, .a, false⟩ ∧
      23 + 1 < 25 ∧ 25 ≤ 24 + 1 ∧ 1 ≤ 25 := by decide +kernel

theorem witness_HandoversEndAtFrames :
    let s := withClaim9 { contested with autoYield := false }
    s.leads clockFrame.cause = true ∧ s.access.claims[(9 : ClaimId)] = some { contested with autoYield := false } ∧
      contested.contest = some ⟨2, 1⟩ ∧ Frame.isPast 1 (s.ref.counter + 1) = true ∧
      (withClaim9 contested).access.claims[(9 : ClaimId)] = some contested ∧ contested.autoYield = true ∧
      (withClaim9 contested).ref.markDue = none ∧ (withClaim9 contested).level.comp = none ∧
      (withClaim9 contested).freeToMove (withClaim9 contested).nextView contested.range = true := by decide +kernel

/-- A measured scan of black, and one that is not measured. -/
def scanning (measured : Bool) : State :=
  let scan : ScanRecord :=
    ⟨1, State.reset.wall.sources, Bank.blank.picture [], none, none, State.reset.wall.links, measured⟩
  { State.reset with wall := { State.reset.wall with scan := some scan } }

theorem witness_WallInputsAndMeasurement :
    ((scanning true).wall.scan.map ScanRecord.measured) = some true ∧
      ((scanning false).wall.scan.map ScanRecord.measured) = some false ∧
      (⟨1, 1, [⟨0, 0, 0, 0⟩]⟩ : SourceFrame).pixels.length = 1 * 1 ∧ 3840 < (⟨3841, 1, []⟩ : SourceFrame).width ∧
      (⟨0, 1, []⟩ : SourceFrame).width = 0 ∧ 2160 < (⟨1, 2161, []⟩ : SourceFrame).height ∧
      (⟨1, 0, []⟩ : SourceFrame).height = 0 := by decide +kernel

/-- A picture with window 4 over the top left corner. -/
def corner : Picture :=
  ⟨(Bank.blank.picture []).windows.set 4 { WindowRec.blank with enabled := true, x1 := 9, y1 := 9 }, .black⟩

theorem witness_CanvasPixels :
    corner.covering 0 0 = some 4 ∧ (corner.windows[(4 : WindowNo)]).candidate 0 0 = true ∧ corner.covering 10 0 = none ∧
      0 ≤ 65536 := by decide +kernel

/-- A computation under way. -/
def computing : State := State.reset.startComputation

theorem witness_LevelsReadyResults : ∃ c, computing.level.comp = some c := ⟨_, rfl⟩

def override5 : Override := ⟨5, .channel 3 1000 7, 1⟩

theorem witness_LevelsReachTheirSlots :
    (∃ c : Computation, computing.level.comp = some c ∧ c.safety = false) ∧
      [override5].Pairwise Override.apart ∧ (∀ x ∈ [override5], isTakeover x.level = true) ∧
      override5.item = .channel 3 1000 7 ∧ override5.item.key = .channel 3 ∧
      (∀ x ∈ [override5], x.item.key ≠ .channel 4) := by
  refine ⟨⟨_, rfl, rfl⟩, List.pairwise_singleton _ _, ?_, rfl, rfl, ?_⟩
  · decide
  · decide

/-- Fades that go on and that restart: from the bank, from an override of each kind, and into and out of safety; and a
follow term that floors. -/
theorem witness_LevelsReachTheirSlots_stages :
    let c : Computation := { worked (-3) 3 60000 .square with overrides := [override5] }
    let safe : Computation :=
      { c with safety := true, patch := Vector.replicate 1024 { PatchRec.blank with safety := some 9 } }
    c.target 4 = (50000, .bank) ∧ c.target 3 = (1000, .override 5) ∧ safe.target 4 = (9, .safety) ∧
      (∀ z ∈ c.overrides, z.item.key = .channel 3 → z.level ≤ override5.level) ∧
      (c.patch[(4 : ChannelNo)]).follow = some 7 ∧ (safe.patch[(4 : ChannelNo)]).follow = none ∧
      (-160 : Int) * 16 ≤ -3 * ((2900 : Int) - 2048) ∧ -3 * ((2900 : Int) - 2048) < -160 * 16 + 16 ∧
      ((25840 : Nat) : Int) = max 0 (min 65535 (26000 + -160)) ∧ (2 : Nat) ≠ 0 ∧ 2 ≤ 2 := by decide +kernel

/-- Channel 1 patched to line 0, 16 bits wide, in an order of bytes, or 8 bits wide; every other channel unpatched. -/
def patchedRec (width : Nat) (fineFirst : Bool) : PatchRec :=
  { PatchRec.blank with line := some 0, slot := 24, width := width, fineFirst := fineFirst }

def patchedAs (width : Nat) (fineFirst : Bool) : State :=
  { State.reset with level := { State.reset.level with
    patch := State.reset.level.patch.set 1 (patchedRec width fineFirst) } }

theorem patchedAs_one (width : Nat) (fineFirst : Bool) :
    (patchedAs width fineFirst).level.patch[(1 : ChannelNo)] = patchedRec width fineFirst :=
  Vector.getElem_set_self _

theorem patchedAs_other (width : Nat) (fineFirst : Bool) (n : ChannelNo) (h : n ≠ 1) :
    (patchedAs width fineFirst).level.patch[n] = PatchRec.blank :=
  (Vector.getElem_set_ne (xs := State.reset.level.patch) (x := patchedRec width fineFirst) (i := 1) (by decide) n.isLt
    fun e => h (Fin.ext e.symm)).trans (Vector.getElem_replicate (n := 1024) (a := PatchRec.blank) n.isLt)

theorem patchedAs_legal (width : Nat) (fineFirst : Bool) (c : Instr) :
    State.patchLegal { patchedAs width fineFirst with pending := [c] } := by
  constructor
  · intro m n hmn
    by_cases h1 : m = 1
    · have h2 : n ≠ 1 := fun e => hmn (h1.trans e.symm)
      rw [show State.level _ = (patchedAs width fineFirst).level from rfl, patchedAs_other _ _ n h2, h1, patchedAs_one]
      rfl
    · rw [show State.level _ = (patchedAs width fineFirst).level from rfl, patchedAs_other _ _ m h1]
      rfl
  · intro n l hl
    rw [show State.level _ = (patchedAs width fineFirst).level from rfl] at hl ⊢
    by_cases h : n = 1
    · rw [h, patchedAs_one] at hl ⊢
      cases hl
      by_cases h2 : width = 2 <;> simp [patchedRec, PatchRec.lastSlot, h2, patchedAs, State.reset, Line.start]
    · rw [patchedAs_other _ _ n h] at hl
      cases hl

theorem witness_LevelsReachTheirSlots_patch :
    State.patchLegal { patchedAs 2 true with pending := [.scanEnd] } ∧
      State.patchLegal { patchedAs 2 false with pending := [.scanEnd] } ∧
      State.patchLegal { patchedAs 1 false with pending := [.scanEnd] } ∧
      ((patchedAs 2 true).level.patch[(1 : ChannelNo)]).line = some 0 ∧
      ((patchedAs 2 true).level.patch[(1 : ChannelNo)]).width = 2 ∧
      ((patchedAs 2 true).level.patch[(1 : ChannelNo)]).fineFirst = true := by
  refine ⟨patchedAs_legal _ _ _, patchedAs_legal _ _ _, patchedAs_legal _ _ _, ?_⟩
  rw [patchedAs_one]
  exact ⟨rfl, rfl, rfl⟩

theorem witness_PatchStaysLegal :
    State.patchLegal { patchedAs 2 true with pending := [.scanEnd] } ∧
      ∃ t, step { patchedAs 2 true with pending := [.scanEnd] } = .next t :=
  ⟨patchedAs_legal _ _ _, _, rfl⟩

def busyLine (enabled : Bool) (waiting : Option Waiting) : Line :=
  ⟨enabled, 24, 88, some ⟨6, 24, 88, []⟩, none, waiting, 0, true⟩

theorem witness_LinesSendComputations :
    (busyLine false none).enabled = false ∧ (Line.start true 24 88).inFlight = none ∧
      (busyLine true none).inFlight.isSome = true ∧ (busyLine true (some ⟨7, []⟩)).waiting = some ⟨7, []⟩ ∧
      ((State.reset.modLine 4 fun _ => busyLine true (some ⟨7, []⟩)).lines[(4 : LineNo)]).inFlight
        = some ⟨6, 24, 88, []⟩ ∧
      ((State.reset.modLine 4 fun _ => busyLine true none).lines[(4 : LineNo)]).waiting = none := by decide +kernel

/-- A state whose preemption stack is empty keeps its law. -/
theorem no_level_legal (s : State) (stack : s.takeover.stack = []) (force : s.takeover.inForce = false) :
    s.preemptionLegal := by
  refine ⟨?_, ?_, ?_⟩ <;> simp [stack, force]

/-- A state with one level on its preemption stack, held by a stack of that level, keeps its law. -/
theorem one_level_legal (s : State) (l : Nat) (k : StackNo) (stack : s.takeover.stack = [.level l k])
    (force : s.takeover.inForce = false) (high : isTakeover l = true) (level : (s.cue.recs[k]).level = l) :
    s.preemptionLegal := by
  refine ⟨by simp [stack], ?_, by simp [stack, force]⟩
  intro m j h
  rw [stack, List.mem_singleton] at h
  cases h
  exact ⟨high, level⟩

/-- Stack 3 in a state, at an owed MARK: at level 1 with no level taken, or holding level 6 on top. -/
def acting (level : Nat) (r : StackRec) : State :=
  owed ((withStack { r with level := level }).setEntries (if level = 6 then [.level 6 3] else []))

theorem acting_legal (r : StackRec) : (acting 1 r).preemptionLegal ∧ (acting 6 r).preemptionLegal :=
  ⟨no_level_legal _ rfl rfl, one_level_legal _ 6 3 rfl rfl rfl rfl⟩

/-- The states in which stack 3 fires, or drops its arm, with no chained GO: the end of a wait, a repeat, and an arm on
its target, as late as its grace and later. -/
def firing : List StackState :=
  [.waiting 0, .repeating 2 0, .armed 1 0, .armed 0xFFFFFFFE 3, .armed 0xFFFFFFFE 2]

theorem witness_StacksActAtMark :
    (∀ x ∈ firing, ∀ level ∈ [1, 6],
      let s := acting level (standing x)
      s.ref.markDue.isSome = true ∧ (∀ j : StackNo, j ≠ 3 → s.restsAt j) ∧ s.mayRun 3 ∧
        (s.cue.recs[(3 : StackNo)]).pendingGo = false ∧ (s.cue.recs[(3 : StackNo)]).chainedGo = false ∧
        (s.cue.recs[(3 : StackNo)]).position = some 7 ∧ s.cue.find 3 7 = some ⟨3, 7, goBody⟩ ∧
        (s.cue.recs[(3 : StackNo)]).state = x) ∧
      ((State.reset.ref.counter + 1 - 1 : Frame)).toNat = 0 ∧
      ((State.reset.ref.counter + 1 - 0xFFFFFFFE : Frame)).toNat = 3 ∧ 3 < 2 ^ 31 ∧
      (⟨3, 7, { goBody with marker := .loopEnd }⟩ : Cue).body.marker = .loopEnd ∧ (⟨7, 1⟩ : LoopContext).remaining = 1 ∧
      (⟨7, 0⟩ : LoopContext).startCue = (⟨3, 7, goBody⟩ : Cue).number ∧ (⟨8, 0⟩ : LoopContext).startCue ≠ 7 := by
  unfold State.restsAt State.mayRun
  decide +kernel

/-- A chained GO on a stack that is IDLE, WAITING or ARMED, and on one at END. -/
theorem witness_StacksActAtMark_chained :
    (∀ x ∈ [.idle, .waiting 4, .armed 9 2, .ended],
      let s := acting 1 { standing x with chainedGo := true }
      s.ref.markDue.isSome = true ∧ (∀ j : StackNo, j ≠ 3 → s.restsAt j) ∧ s.mayRun 3 ∧
        (s.cue.recs[(3 : StackNo)]).chainedGo = true ∧ (s.cue.recs[(3 : StackNo)]).pendingGo = false ∧
        (s.cue.recs[(3 : StackNo)]).position = some 7 ∧ (s.cue.recs[(3 : StackNo)]).state = x) := by
  unfold State.restsAt State.mayRun
  decide +kernel

/-- Stack 3 suspended: at level 1, or at level 6, with level 6 held by stack 1. -/
def suspended (level : Nat) (x : StackState) : State :=
  let s := (withStack { standing x with level := level }).setEntries [.level 6 1]
  owed (s.modStack 1 fun r => { r with level := 6 })

/-- A stack that counts, waits for its target or rests, and the same stack suspended. -/
theorem witness_StacksActAtMark_counting :
    (∀ x ∈ [.waiting 5, .repeating 2 5, .armed 9 2, .idle],
      let s := acting 1 (standing x)
      s.ref.markDue.isSome = true ∧ s.mayRun 3 ∧ (s.cue.recs[(3 : StackNo)]).chainedGo = false ∧
        (s.cue.recs[(3 : StackNo)]).pendingGo = false ∧ (s.cue.recs[(3 : StackNo)]).state = x ∧
        ((suspended 1 x).cue.recs[(3 : StackNo)]).level < (suspended 1 x).takeover.mask ∧
        ((suspended 1 x).cue.recs[(3 : StackNo)]).chainedGo = false ∧
        isTakeover ((suspended 6 x).cue.recs[(3 : StackNo)]).level = true ∧
        ((suspended 6 x).cue.recs[(3 : StackNo)]).level = (suspended 6 x).takeover.mask ∧
        (suspended 6 x).takeover.onTop 3 = false) ∧
      2 ^ 31 ≤ ((State.reset.ref.counter + 1 - 9 : Frame)).toNat ∧
      (acting 1 (standing .ended)).ref.markDue.isSome = true := by
  unfold State.mayRun
  decide +kernel

theorem suspended_legal (x : StackState) : (suspended 1 x).preemptionLegal ∧ (suspended 6 x).preemptionLegal :=
  ⟨one_level_legal _ 6 1 rfl rfl rfl rfl, one_level_legal _ 6 1 rfl rfl rfl rfl⟩

theorem no_claims_deny (p : Port) (i : Item) : State.reset.access.denied (some p) i = false := by
  simp [AccessUnit.denied, AccessUnit.claimCovers, State.reset]

theorem no_item_in_shot (i : GuardedItem) : State.reset.shotGuard i = none := by
  cases i <;> simp [State.shotGuard, State.reset]

/-- Every item in shot under one guard, with a deferred queue. -/
def inShot (g : Guard) (queue : List Deferred) : State :=
  { State.reset with tally := { State.reset.tally with
    inShotWindows := .allOnes 32, inShotGroups := .allOnes 16, windowGuards := Vector.replicate 32 g,
    groupGuards := Vector.replicate 16 g, queue := queue } }

theorem inShot_guard (g : Guard) (queue : List Deferred) (i : GuardedItem) : (inShot g queue).shotGuard i = some g := by
  have windows : ∀ w : Fin 32, (BitVec.allOnes 32).getLsbD w.val = true := by decide
  have groups : ∀ k : Fin 16, (BitVec.allOnes 16).getLsbD k.val = true := by decide
  cases i <;> simp only [State.shotGuard, inShot, windows, groups, if_true] <;> simp

theorem inShot_guardOf (g : Guard) (queue : List Deferred) (w : ItemWrite)
    (h : w.bank = none ∨ w.bank = some State.reset.scene.program) : (inShot g queue).guardOf w = some g := by
  unfold State.guardOf
  rcases h with h | h <;> rw [h]
  · exact inShot_guard g queue _
  · exact (if_pos rfl).trans (inShot_guard g queue _)

/-- A deferred queue with no room left. -/
def fullQueue : List Deferred := List.replicate 32 { write := .master 5 0, origin := .port 1 }

/-- The writes that a channel, a window and a master name in the program bank. -/
def programWrites : List (List ItemWrite) :=
  [(channelRange 5 5).map fun n => .channel .a n 9 (some 0) none, [.window .a 4 (.layer 31)], [.master 4 9]]

/-- Every case of the guards' decision, for a channel's write, a window's and a master's: refused, queued, with the
queue full, with GUARD_ALERT, and out of shot. -/
theorem witness_guards_decide :
    (∀ g : Guard, ∀ queue : List Deferred, ∀ ws ∈ programWrites, ∀ w ∈ ws, (inShot g queue).guardOf w = some g) ∧
      (∀ ws ∈ programWrites, ws ≠ [] ∧ ((inShot .defer []).queueWith (.port 0) ws).length ≤ 32 ∧
        32 < ((inShot .defer fullQueue).queueWith (.port 0) ws).length) ∧
      (∀ ws ∈ programWrites, ∀ w ∈ ws, State.reset.guardOf w ≠ some .refuse ∧ State.reset.guardOf w ≠ some .defer) := by
  refine ⟨fun g queue ws hws w hw => inShot_guardOf g queue w ?_, by decide +kernel, fun ws _ w _ => ?_⟩
  · simp only [programWrites, List.mem_cons, List.not_mem_nil, or_false] at hws
    rcases hws with h | h | h <;> rw [h] at hw
    · obtain ⟨n, -, rfl⟩ := List.mem_map.1 hw
      exact .inr rfl
    · rw [List.mem_singleton.1 hw]; exact .inr rfl
    · rw [List.mem_singleton.1 hw]; exact .inl rfl
  · unfold State.guardOf
    cases w.bank with
    | none => simp [no_item_in_shot]
    | some bank => by_cases h : bank = State.reset.scene.program <;> simp [h, no_item_in_shot]

/-- An item of each kind that a show stack's action is denied and one that it is not, and the shapes of the stack, the
bank and the transition. -/
theorem witness_CueActionsExecute :
    isTakeover ((State.reset).cue.recs[(3 : StackNo)]).level = false ∧ State.reset.access.stackOwner 3 = none ∧
      (withClaim9 ⟨1, .channels 2 8, false, none⟩).access.denied none (.channel 5) = true ∧
      (withClaim9 ⟨1, .windows 0x10, false, none⟩).access.denied none (.window 4) = true ∧
      (withClaim9 held).access.denied none (.group 4) = true ∧
      (withClaim9 ⟨1, .stack 2, false, none⟩).access.denied none (.stack 2) = true ∧
      State.reset.access.denied none (.channel 5) = false ∧ State.reset.access.denied none (.window 4) = false ∧
      State.reset.access.denied none (.group 4) = false ∧ State.reset.access.denied none (.stack 2) = false ∧
      (inTransition (.running ⟨1, 25, .linear, 3, .b, false⟩)).scene.inFlight = true ∧
      State.reset.scene.inFlight = false := by decide +kernel

/-- A takeover stack's action: with room in the override table and with none, on an item that it overrides already and
on one that it does not, with every item in shot under each guard. -/
def overriding (g : Guard) (table : List Override) : State :=
  { inShot g [] with
    cue := (acting 6 (standing .idle)).cue
    takeover := { State.reset.takeover with overrides := table } }

theorem witness_CueActionsExecute_takeover :
    isTakeover ((overriding .refuse []).cue.recs[(3 : StackNo)]).level = true ∧
      (∀ g : Guard, ∀ i : GuardedItem, (overriding g []).shotGuard i = some g) ∧
      256 - (overriding .alert (List.replicate 256 override5)).takeover.overrides.length < 1 ∧
      (overrideAt (List.replicate 256 override5) (.channel 3) 6).isNone = true ∧
      (overrideAt [override5] (.channel 3) 5).isNone = false ∧ 1 ≤ 256 - (overriding .alert []).takeover.overrides.length :=
  ⟨rfl, fun g i => inShot_guard g [] i, by decide +kernel, by decide +kernel, by decide +kernel, by decide +kernel⟩

/-- Stack 3 asks for level 6: by an accepted GO, or by a pending one. -/
def granting (state : StackState) (pendingGo : Bool) : State :=
  owed (withStack { standing state with level := 6, pendingGo := pendingGo })

/-- Stack 1 asks for a level beside stack 3, and loses. -/
def granting2 (level : Nat) (k : StackNo) : State :=
  (granting (.waiting 0) false).modStack k fun _ =>
    { standing (.waiting 0) with level := level, position := some 2 }

theorem witness_TakeoversAreGranted :
    (granting (.waiting 0) false).preemptionLegal ∧ (granting (.waiting 0) false).ref.markDue.isSome = true ∧
      (∀ j : StackNo, j ≠ 3 → (granting (.waiting 0) false).restsAt j) ∧
      isTakeover ((granting (.waiting 0) false).cue.recs[(3 : StackNo)]).level = true ∧
      (granting (.waiting 0) false).takeover.mask < ((granting (.waiting 0) false).cue.recs[(3 : StackNo)]).level ∧
      ((granting (.waiting 0) false).cue.recs[(3 : StackNo)]).position = some 7 ∧
      ((granting (.waiting 0) false).cue.find 3 7).map (fun q => q.body.release) = some false ∧
      ((granting .idle true).cue.recs[(3 : StackNo)]).pendingGo = true := by
  refine ⟨no_level_legal _ rfl rfl, by decide +kernel, ?_, by decide +kernel⟩
  unfold State.restsAt
  decide +kernel

/-- A lower level that asks, an equal one of a higher number, and the stack on top with a pending GO. -/
theorem witness_TakeoversAreGranted_losers :
    (granting2 5 1).preemptionLegal ∧ (granting2 6 5).preemptionLegal ∧
      (∀ j : StackNo, j ≠ 3 → j ≠ 1 → (granting2 5 1).restsAt j) ∧
      (∀ j : StackNo, j ≠ 3 → j ≠ 5 → (granting2 6 5).restsAt j) ∧
      ((granting2 5 1).cue.recs[(1 : StackNo)]).level = 5 ∧ ((granting2 6 5).cue.recs[(5 : StackNo)]).level = 6 ∧
      ((granting2 5 1).cue.recs[(1 : StackNo)]).state = .waiting 0 ∧ (granting2 6 5).takeover.mask = 0 ∧
      (acting 6 { standing .idle with pendingGo := true }).takeover.onTop 3 = true ∧
      (∀ j : StackNo, j ≠ 3 → (acting 6 { standing .idle with pendingGo := true }).restsAt j) := by
  refine ⟨no_level_legal _ rfl rfl, no_level_legal _ rfl rfl, ?_⟩
  unfold State.restsAt
  decide +kernel

theorem witness_DeferredWritesAreApplied :
    (owed withQueue).ref.markDue.isSome = true ∧ (∀ j : StackNo, (owed withQueue).restsAt j) ∧
      ∃ d ∈ (owed withQueue).tally.queue, ((owed withQueue).releasable d).isSome = true := by
  refine ⟨rfl, ?_, queued, List.mem_singleton.mpr rfl, by decide +kernel⟩
  unfold State.restsAt
  decide +kernel

/-- A queue with an entry of port 1 and one of a stack without an owner, to a routing set of port 0 alone and to one that
holds port 1 too; port 2 is no destination. -/
theorem witness_DeferredWritesAreApplied_alerts :
    let s := { owed withQueue with tally := { withQueue.tally with
      queue := [queued, { write := .master 5 9, origin := .stack 3 }] } }
    let both := { s with ports := { s.ports with routing := s.ports.routing.set 8 0b0011 } }
    (∀ d ∈ s.tally.queue, (s.releasable d).isSome = true ∧ (both.releasable d).isSome = true) ∧
      (s.tally.queue.map fun d => s.originPort d) = [some 1, none] ∧ (s.ports.routing[8]).getLsbD 0 = true ∧
      (s.ports.routing[8]).getLsbD 1 = false ∧ (both.ports.routing[8]).getLsbD 1 = true ∧
      (both.ports.routing[8]).getLsbD 2 = false := by decide +kernel

theorem witness_SetLevelWritesChannels :
    bankRole? 0 = some .program ∧ be16 0 5 = (5 : ChannelNo).val ∧ be16 3 255 = (1023 : ChannelNo).val ∧
      (5 : ChannelNo) ≤ 1023 ∧ (3 : Byte).toNat < 4 ∧ (3 : Byte).getLsbD 0 = true ∧ curve? 1 = some .soft ∧
      State.reset.scene.inFlight = false ∧
      (∀ n : ChannelNo, State.reset.access.denied (some 0) (.channel n) = false ∧
        State.reset.shotGuard (.channel n) = none) := by
  refine ⟨rfl, by decide, by decide, by decide, by decide, by decide, by decide, rfl, fun n => ⟨?_, ?_⟩⟩
  · exact no_claims_deny 0 _
  · exact no_item_in_shot _

/-- Every item in shot, for a write of the program bank: the guards' cases are those of witness_guards_decide. -/
theorem witness_SetLevelWritesChannels_in_shot (g : Guard) (queue : List Deferred) :
    (inShot g queue).quiet ∧ (inShot g queue).ready 0 ∧
      (∀ i : Item, (inShot g queue).access.denied (some 0) i = false) ∧
      (∀ i : GuardedItem, (inShot g queue).shotGuard i = some g) ∧ ((inShot g queue).ports.routing[7]).getLsbD 0 = true ∧
      shortPairs ((inShot g queue).access.pages[(0 : Port)]) [7, 0, 9] = some [(7, 9)] := by
  refine ⟨witness_quiet_ready_engineer.1, witness_quiet_ready_engineer.2.1, no_claims_deny 0, inShot_guard g queue, ?_, ?_⟩
  · rw [show (inShot g queue).ports = State.reset.ports from rfl]
    decide +kernel
  · rw [show (inShot g queue).access = State.reset.access from rfl]
    decide +kernel

theorem witness_ShortLevelsAndWindows :
    shortPairs (State.reset.access.pages[(0 : Port)]) [7, 0, 9] = some [(7, 9)] ∧
      State.reset.access.denied (some 0) (.window 4) = false ∧ State.reset.shotGuard (.window 4) = none ∧
      be16 0 128 = 128 ∧ splitGroups 128 FieldGroup.all [31] = some [(.layer, [31])] ∧
      everyOk ([(FieldGroup.layer, ([31] : List Byte))].map fun g => fieldValue g.1 g.2) = .ok [.layer 31] :=
  ⟨rfl, no_claims_deny 0 _, no_item_in_shot _, by decide, by decide, rfl⟩

theorem witness_CopyFillAndBusy :
    let s := inTransition (.running ⟨1, 25, .linear, 3, .b, false⟩)
    State.reset.scene.inFlight = false ∧ s.scene.inFlight = true ∧ bankRole? 1 = some .preset ∧ s.quiet ∧ s.ready 0 ∧
      (∀ i : Item, s.access.denied (some 0) i = false) ∧
      shortPairs s.access.pages[(0 : Port)] [7, 0, 9] = some [(7, 9)] ∧ (curve? 1).isSome = true ∧
      (3 : Byte).getLsbD 1 = true ∧ (0 : Byte).getLsbD 1 = false :=
  ⟨rfl, rfl, rfl, witness_quiet_ready_engineer.1, witness_quiet_ready_engineer.2.1, no_claims_deny 0, rfl, by decide,
    by decide, by decide⟩

/-- Group 4 in shot under a guard, with a deferred queue. -/
def guarded (g : Guard) (queue : List Deferred) : State :=
  { State.reset with tally := { State.reset.tally with
    inShotGroups := 0x10, groupGuards := State.reset.tally.groupGuards.set 4 g, queue := queue } }

theorem witness_GuardsDecideMasterWrites :
    (guarded .defer [queued]).quiet ∧ (guarded .defer [queued]).ready 0 ∧
      (guarded .defer [queued]).access.denied (some 0) (.group 4) = false ∧
      State.reset.tally.inShotGroups.getLsbD 4 = false ∧ (guarded .defer [queued]).tally.inShotGroups.getLsbD 4 = true ∧
      (guarded .openMode []).tally.groupGuards[(4 : GroupNo)] = .openMode ∧
      (guarded .alert []).tally.groupGuards[(4 : GroupNo)] = .alert ∧
      (guarded .refuse []).tally.groupGuards[(4 : GroupNo)] = .refuse ∧
      (guarded .defer [queued]).tally.groupGuards[(4 : GroupNo)] = .defer ∧
      (guarded .defer [queued]).tally.queue = [] ++ queued :: [] ∧ queued.write.target = .master 4 ∧
      (∀ d ∈ (guarded .defer []).tally.queue, d.write.target ≠ .master 4) ∧
      (guarded .defer (List.replicate 32 { write := .master 5 0, origin := .port 1 })).tally.queue.length = 32 := by
  unfold State.quiet State.ready
  decide +kernel

theorem witness_GuardsDecideMasterWrites_legal : (guarded .defer [queued]).tally.queueLegal :=
  ⟨by decide, List.pairwise_singleton _ _⟩

theorem witness_TakeByContext :
    (inTransition (.pending 2)).quiet ∧ (inTransition (.pending 2)).ready 0 ∧
      (inTransition (.running ⟨1, 25, .linear, 3, .b, false⟩)).quiet ∧
      (inTransition (.running ⟨1, 25, .linear, 3, .b, false⟩)).ready 0 ∧
      (inTransition (.running ⟨1, 25, .linear, 3, .b, false⟩)).scene.trans = .running ⟨1, 25, .linear, 3, .b, false⟩ ∧
      State.reset.scene.trans = .idle ∧ 4 ≤ (4 : Byte).toNat := by
  unfold State.quiet State.ready
  decide +kernel

theorem witness_GoByState :
    (withStack (standing .idle)).quiet ∧ (withStack (standing .idle)).ready 0 ∧
      (withStack (standing .idle)).access.denied (some 0) (.stack 3) = false ∧
      ((withStack (standing .ended)).cue.recs[(3 : StackNo)]).state = .ended ∧
      ((withStack (standing (.repeating 1 0))).cue.recs[(3 : StackNo)]).state = .repeating 1 0 ∧
      ((withStack (standing (.armed 1 2))).cue.recs[(3 : StackNo)]).state = .armed 1 2 ∧
      ((withStack (standing .idle)).cue.recs[(3 : StackNo)]).level ≤ 4 ∧
      5 ≤ ((withStack (standing .idle)).setEntries [.level 5 1]).takeover.mask ∧
      (withStack (standing .idle)).takeover.mask < 5 ∧ holding6.takeover.onTop 3 = true ∧
      (holding6.setEntries [.level 6 3, .level 7 1]).takeover.onTop 3 = false ∧
      (holding6.setEntries [.level 6 3, .level 7 1]).takeover.holds 3 = true ∧
      (holding6.setEntries [.level 6 1]).takeover.holds 3 = false ∧
      (holding6.cue.recs[(3 : StackNo)]).level ≤ (holding6.setEntries [.level 6 1]).takeover.mask ∧
      (holding6.setEntries [.level 5 1]).takeover.mask < (holding6.cue.recs[(3 : StackNo)]).level := by
  unfold State.quiet State.ready
  decide +kernel

theorem witness_ArmByState :
    (withStack (standing (.armed 9 2))).quiet ∧ (withStack (standing (.armed 9 2))).ready 0 ∧
      (withStack (standing (.armed 9 2))).access.denied (some 0) (.stack 3) = false ∧
      ((withStack (standing (.armed 9 2))).cue.recs[(3 : StackNo)]).level ≤ 4 ∧
      ((withStack (standing (.waiting 4))).cue.recs[(3 : StackNo)]).state = .waiting 4 ∧
      isTakeover (holding6.cue.recs[(3 : StackNo)]).level = true ∧ holding6.quiet ∧ holding6.ready 0 ∧
      holding6.access.denied (some 0) (.stack 3) = false := by
  unfold State.quiet State.ready
  decide +kernel

theorem witness_StacksAreHaltedAndLevelled :
    (withStack (standing .idle)).restsAt 3 ∧ (withStack (standing .idle)).takeover.holds 3 = false ∧
      ¬ (withStack (standing (.waiting 4))).restsAt 3 ∧ holding6.takeover.holds 3 = true ∧ 1 ≤ (7 : Byte).toNat ∧
      (7 : Byte).toNat ≤ 7 ∧ holding6.quiet ∧ holding6.ready 0 ∧ holding6.access.denied (some 0) (.stack 3) = false := by
  unfold State.quiet State.ready State.restsAt
  decide +kernel

theorem witness_CuesAreStoredAndDeleted :
    cueBody goCue = .ok goBody ∧ be16 0 7 = 7 ∧ be16 0x27 0x0F = 9999 ∧
      (withStack (standing .idle)).cue.find 3 7 = some ⟨3, 7, goBody⟩ ∧ (withStack (standing .idle)).cue.find 3 8 = none ∧
      (withStack (standing .idle)).cue.usedSlots + 1 ≤ 4096 ∧ (withStack (standing .idle)).cue.store.length < 1024 ∧
      ((withStack (standing .idle)).cue.recs[(3 : StackNo)]).position = some 7 ∧
      ((withStack { standing .idle with position := some 8, loop := some ⟨7, 1⟩ }).cue.recs[(3 : StackNo)]).loop
        = some ⟨7, 1⟩ := by
  refine ⟨rfl, ?_⟩
  decide +kernel

/-- A full cue store, to the record. -/
def fullStore : State :=
  { State.reset with cue := { State.reset.cue with store := List.replicate 1024 ⟨1, 1, goBody⟩ } }

theorem witness_CuesAreStoredAndDeleted_full :
    fullStore.quiet ∧ fullStore.ready 0 ∧ 1024 ≤ fullStore.cue.store.length ∧ fullStore.cue.find 3 7 = none := by
  refine ⟨witness_quiet_ready_engineer.1, witness_quiet_ready_engineer.2.1, ?_, ?_⟩
  · exact Nat.le_of_eq List.length_replicate.symm
  · refine List.find?_eq_none.mpr fun q hq => ?_
    rw [List.eq_of_mem_replicate hq]
    decide

/-- Stack 3 standing on its one cue, with a command waiting. -/
def standingFor (c : Instr) : State := { withStack (standing .idle) with pending := [c] }

theorem witness_CueUnitStaysLegal :
    (standingFor (.go (from0 [3]))).cue.storeLegal ∧ (standingFor (.go (from0 [3]))).cue.stacksLegal ∧
      ∃ t, step (standingFor (.go (from0 [3]))) = .next t := by
  have recs : ∀ k : StackNo, (standingFor (.go (from0 [3]))).cue.recs[k] =
      if k = 3 then standing .idle else StackRec.start 1 := by decide +kernel
  refine ⟨⟨List.pairwise_singleton _ _, by decide, by decide, ?_⟩, ?_, _, rfl⟩
  · intro q hq
    rw [List.mem_singleton.mp hq]
    decide
  · intro k
    rw [recs k]
    by_cases h : k = 3
    · subst h
      refine ⟨by decide, ?_, ?_⟩
      · intro n hn
        cases hn
        decide
      · intro x hx
        cases hx
    · rw [if_neg h]
      refine ⟨by decide, ?_, ?_⟩
      · intro n hn
        cases hn
      · intro x hx
        cases hx

theorem witness_LevelsAreReleased :
    holding6.quiet ∧ holding6.ready 0 ∧ isTakeover (6 : Byte).toNat = true ∧
      holding6.takeover.holder (6 : Byte).toNat = some 3 ∧ holding6.access.denied (some 0) (.stack 3) = false ∧
      isTakeover (8 : Byte).toNat = false ∧ (∀ k, PreEntry.level (8 : Byte).toNat k ∉ holding6.takeover.stack) ∧
      isTakeover (5 : Byte).toNat = true ∧ (∀ k, PreEntry.level (5 : Byte).toNat k ∉ holding6.takeover.stack) := by
  unfold State.quiet State.ready
  decide +kernel

theorem witness_SafetyFollowsInputAndLatch :
    false = State.reset.takeover.latch ∧ false = State.reset.takeover.emergency := ⟨rfl, rfl⟩

theorem witness_PreemptionStaysInOrder :
    State.preemptionLegal { holding6 with pending := [.emergencyInputChange true] } ∧
      ∃ t, step { holding6 with pending := [.emergencyInputChange true] } = .next t := by
  refine ⟨⟨List.pairwise_singleton _ _, ?_, by decide +kernel⟩, _, rfl⟩
  intro l k h
  have := List.mem_singleton.mp h
  injection this with hl hk
  subst hl hk
  decide +kernel

/-- Stack 3 REPEATING while it holds level 6, with an override at its level. -/
theorem witness_PreemptionStaysInOrder_overrides :
    let s := { acting 6 (standing (.repeating 2 0)) with
      takeover := { (acting 6 (standing (.repeating 2 0))).takeover with overrides := [{ override5 with level := 6 }] }
      pending := [.mark []] }
    s.preemptionLegal ∧ s.overridesHeld ∧ ∃ t, step s = .next t := by
  refine ⟨one_level_legal _ 6 3 rfl rfl rfl rfl, ⟨?_, ?_⟩, _, rfl⟩
  · intro e he
    rw [List.mem_singleton.1 he]
    exact ⟨3, List.mem_singleton.2 rfl⟩
  · have only : ∀ k : StackNo, k ≠ 3 →
        isTakeover ((acting 6 (standing (.repeating 2 0))).cue.recs[k]).level = false := by decide +kernel
    intro k high
    by_cases h : k = 3
    · subst h
      exact ⟨fun _ _ _ => List.mem_singleton.2 rfl, fun _ _ e => by cases e⟩
    · exact absurd high (by rw [show State.cue _ = (acting 6 (standing (.repeating 2 0))).cue from rfl, only k h]; decide)

/-- An override and a deferred entry stand, and a command waits. -/
def tablesFor (c : Instr) : State :=
  { State.reset with
    takeover := { State.reset.takeover with overrides := [override5] }
    tally := { State.reset.tally with queue := [queued] }
    pending := [c] }

theorem witness_TablesKeepOneEntryPerKey :
    (tablesFor (.mark [])).takeover.overridesLegal ∧ (tablesFor (.mark [])).tally.queueLegal ∧
      ∃ t, step (tablesFor (.mark [])) = .next t := by
  refine ⟨⟨by decide, List.pairwise_singleton _ _, ?_⟩, ⟨by decide, List.pairwise_singleton _ _⟩, _, rfl⟩
  intro e he
  rw [List.mem_singleton.mp he]
  decide

theorem witness_ClaimsAreMade :
    flag? 1 = some true ∧ claimRange 2 [4] = .ok (.group 4) ∧
      (withClaim9 held).access.claims[(9 : ClaimId)] = some held ∧ held.range.shares (.group 4) = true ∧
      (withClaim9 held).quiet ∧ (withClaim9 held).ready 0 ∧
      (State.reset.access.claims[(0 : ClaimId)]) = none := by
  refine ⟨by decide, rfl, ?_⟩
  unfold State.quiet State.ready
  decide +kernel

theorem witness_ClaimsAreMade_apart :
    (∀ (i : ClaimId) (d : Claim), State.reset.access.claims[i] = some d → d.range.shares (.group 4) = true →
      d.owner = 0 ∧ d.contest = none) ∧
      ∀ i : ClaimId, i < 0 → (State.reset.access.claims[i]).isSome = true :=
  ⟨fun i d h => by simp [State.reset] at h, fun i h => absurd h (Fin.not_lt_zero i)⟩

/-- Every claim table entry in use, each for a stack of port 1. -/
def fullClaims : State :=
  { State.reset with access := { State.reset.access with claims := Vector.replicate 64 (some ⟨1, .stack 0, false, none⟩) } }

theorem witness_ClaimsAreMade_full :
    fullClaims.quiet ∧ fullClaims.ready 0 ∧ (∀ i : ClaimId, (fullClaims.access.claims[i]).isSome = true) ∧
      ∀ (i : ClaimId) (d : Claim), fullClaims.access.claims[i] = some d → d.range.shares (.group 4) = true →
        d.owner = 0 ∧ d.contest = none := by
  refine ⟨witness_quiet_ready_engineer.1, witness_quiet_ready_engineer.2.1, fun i => by simp [fullClaims], ?_⟩
  intro i d h
  simp [fullClaims] at h
  subst h
  intro h
  cases h

theorem witness_ClaimsAreGivenUp :
    64 ≤ (64 : Byte).toNat ∧ State.reset.access.claims[(63 : ClaimId)] = none ∧
      (withClaim9 held).access.claims[(9 : ClaimId)] = some held ∧ held.owner ≠ 0 ∧
      ({ held with owner := 0 } : Claim).contest = none ∧ ({ contested with owner := 0 } : Claim).contest = some ⟨2, 1⟩ ∧
      (withClaim9 { contested with owner := 0 }).quiet ∧ (withClaim9 { contested with owner := 0 }).ready 0 := by
  unfold State.quiet State.ready
  decide +kernel

/-- Two claims of port 1 that share group 4. -/
def sharing : State := (withClaim9 held).setClaim 10 (some held)

theorem witness_ClaimsAreAskedForAndDropped :
    (withClaim9 held).quiet ∧ (withClaim9 held).ready 0 ∧ (withClaim9 held).access.roles[(0 : Port)] = .engineering ∧
      held.owner ≠ 0 ∧ held.contest = none ∧ contested.contest.isSome = true ∧
      sharing.access.claims[(10 : ClaimId)] = some held ∧ sharing.access.claims[(9 : ClaimId)] = some held ∧
      held.range.shares held.range = true ∧ sharing.quiet ∧ sharing.ready 0 := by
  unfold State.quiet State.ready
  decide +kernel

theorem witness_ClaimsAreAskedForAndDropped_alone :
    ¬ ∃ (j : ClaimId) (d : Claim), j ≠ 9 ∧ (withClaim9 held).access.claims[j] = some d ∧ d.owner = held.owner ∧
      d.range.shares held.range = true := by
  rintro ⟨j, d, hj, hd, -⟩
  rw [withClaim9, (witness_ClaimsDenyOtherPorts_only held 9).2 j hj] at hd
  cases hd

def twoEngineers : State :=
  { State.reset with access := { State.reset.access with roles := #v[.engineering, .engineering, .operator, .operator] } }

theorem witness_RolesPagesAndLocks :
    twoEngineers.quiet ∧ twoEngineers.ready 0 ∧ (∃ o : Port, o ≠ 0 ∧ twoEngineers.access.roles[o] = .engineering) ∧
      ∀ o : Port, o ≠ 0 → State.reset.access.roles[o] = .operator := by
  unfold State.quiet State.ready
  decide +kernel

theorem witness_AccessStaysLegal :
    let s : State := { withClaim9 contested with pending := [.localClockExpiry inputs] }
    s.access.claimsLegal ∧ s.access.hasEngineer ∧ ∃ t, step s = .next t := by
  have only := (witness_ClaimsDenyOtherPorts_only contested 9).2
  have nine := (witness_ClaimsDenyOtherPorts_only contested 9).1
  refine ⟨⟨?_, ?_⟩, ⟨0, rfl⟩, _, rfl⟩
  · intro i j c d hij hi hj
    by_cases h : i = 9
    · rw [show (withClaim9 contested).access.claims[j] = none from only j fun e => hij (h.trans e.symm)] at hj
      cases hj
    · rw [show (withClaim9 contested).access.claims[i] = none from only i h] at hi
      cases hi
  · intro i c w hi hw
    by_cases h : i = 9
    · subst h
      rw [show (withClaim9 contested).access.claims[(9 : ClaimId)] = some contested from nine] at hi
      cases hi
      cases hw
      decide
    · rw [show (withClaim9 contested).access.claims[i] = none from only i h] at hi
      cases hi

theorem witness_PatchAndLinesAreSet :
    be16 0 1 = (1 : ChannelNo).val ∧ splitPatch 2 patchGroups [1] = some [(1, [1])] ∧
      (∃ ws, everyOk ([(1, ([1] : List Byte))].map fun g => patchWrite g.1 g.2) = .ok ws) ∧
      State.reset.access.patchLock = false ∧ (PatchRec.blank).line = none ∧
      ((patchedAs 2 true).level.patch[(1 : ChannelNo)]).line = some 0 ∧ (7 : Byte).toNat < 8 ∧ flag? 1 = some true :=
  ⟨by decide, by decide, ⟨_, rfl⟩, rfl, rfl, congrArg PatchRec.line (patchedAs_one 2 true), by decide, by decide⟩

theorem witness_WallAndShotAreConfigured :
    1 ≤ (1 : Byte).toNat ∧ (1 : Byte).getLsbD 1 = false ∧ (3 : Byte).getLsbD 1 = true ∧ curve? 1 = some .soft ∧
      (4 : Byte).getLsbD 0 = false ∧ (4 : Byte).getLsbD 2 = true ∧ flag? 0 = some false ∧
      State.reset.access.shotLock = false ∧ be32 0x80 0 0 0 ≠ 0 ∧ guard? 3 = some .refuse := by decide +kernel

theorem witness_TimingIsSet :
    (1 : Byte).toNat < 32 ∧ (∃ l, portRates [3, 2] = some l ∧ everyOk l = .ok [(3, .r1000000)]) ∧ (1 : Byte) ≠ 0 ∧
      rate? 3 = some .r5994 ∧ (1 : Byte).getLsbD 0 = true ∧ (1 : Byte).getLsbD 4 = false ∧
      (portRates [] = some [] ∧ everyOk ([] : List (Except ReplyCode (Port × LineRate))) = .ok []) :=
  ⟨by decide, ⟨_, rfl, rfl⟩, by decide, by decide, by decide, by decide, rfl, rfl⟩

theorem witness_FrameRoutesAndClipsAreSet :
    (15 : Byte).toNat < 16 ∧ ((12 : Fin 16).val ≤ 12 ∧ (12 : Byte).toNat = (12 : Fin 16).val) ∧
      (13 ≤ (13 : Fin 16).val ∧ (17 : Byte).toNat = (13 : Fin 16).val + 4) ∧
      (13 ≤ (16 : Byte).toNat ∧ (16 : Byte).toNat ≤ 16) ∧ 20 ≤ (20 : Byte).toNat := by decide

theorem witness_ReadsAnswer :
    bankRole? 1 = some .preset ∧ be16 3 255 = (1023 : ChannelNo).val ∧ be16 0 1 = 1 ∧ be16 0x27 0x0F = 9999 ∧
      2 ≤ (2 : Byte).toNat := by decide

theorem witness_SavesBeginAndEnd :
    writing.quiet ∧ writing.ready 0 ∧ writing.access.roles[(0 : Port)] = .engineering ∧
      writing.image.saving = some saving ∧ State.reset.image.saving = none := by
  refine ⟨witness_quiet_ready_engineer.1, witness_quiet_ready_engineer.2.1, rfl, rfl, rfl⟩

theorem witness_SavedImagesLoad : ImageBody.defaults.inRange ∧ ImageBody.defaults.lawful = true := by
  have patch : ImageBody.defaults.patch.toList.filter (fun p => p.line.isSome) = [] := by
    rw [List.filter_eq_nil_iff]
    intro p hp
    rw [show ImageBody.defaults.patch.toList = List.replicate 1024 PatchRec.blank from Vector.toList_replicate] at hp
    rw [List.eq_of_mem_replicate hp]
    decide
  have bank : Bank.blank.inRange := by
    refine ⟨fun w => ?_, by decide, fun n => ?_⟩
    · simp [Bank.blank, WindowRec.inRange, WindowRec.blank, RGB.black]
    · simp [Bank.blank, ChannelRec.inRange]
  refine ⟨⟨fun n => ?_, fun l => ?_, fun k => ?_, fun p => ?_, by decide, by decide, bank, bank, ?_, ?_⟩, ?_⟩
  · simp [ImageBody.defaults, PatchRec.inRange, PatchRec.blank]
  · simp [ImageBody.defaults]
  · simp [ImageBody.defaults, WallLink.inRange, WallLink.blank]
  · simp [ImageBody.defaults]
  · intro q hq
    cases hq
  · intro k
    simp [ImageBody.defaults]
  · have covered : slotsCovered ImageBody.defaults.patch ImageBody.defaults.lines = true := by
      refine List.all_eq_true.mpr fun p hp => ?_
      rw [show ImageBody.defaults.patch.toList = List.replicate 1024 PatchRec.blank from Vector.toList_replicate] at hp
      rw [List.eq_of_mem_replicate hp]
      rfl
    simp only [ImageBody.lawful, patchesApart, patch, covered]
    rfl

/-- A blank bank reads back from its bytes. -/
theorem blankBank_takes : readBank.Takes Bank.blank.bytes Bank.blank := by
  have w : readWindow.Takes WindowRec.blank.bytes WindowRec.blank := chunk_takes (by decide +kernel) (by decide +kernel)
  have f : readFill.Takes RGB.black.bytes RGB.black := chunk_takes (by decide) (by decide)
  have c : readChannel.Takes (ChannelRec.bytes ⟨0, 0, .linear⟩) ⟨0, 0, .linear⟩ := chunk_takes (by decide) (by decide)
  intro rest
  have hw := table_takes_replicate (n := 32) w
  have hc := table_takes_replicate (n := 1024) c
  simp only [Reader.Takes] at hw hc f
  simp only [readBank, Bank.bytes, Bank.blank, List.append_assoc, hw, f, hc, Option.bind_eq_bind, Option.bind_some]

/-- The default body reads back from its bytes. -/
theorem defaults_read : readBody ImageBody.defaults.bytes = some (ImageBody.defaults, []) := by
  have patch : readPatch.Takes PatchRec.blank.bytes PatchRec.blank :=
    chunk_takes (by decide +kernel) (by decide +kernel)
  have shot : readShot.Takes (ShotEntry.bytes ⟨0, 0⟩) ⟨0, 0⟩ := chunk_takes (by decide) (by decide)
  have guard : (oneByte guard?).Takes (u8 Guard.openMode.code) .openMode := chunk_takes (by decide) (by decide)
  have route : (oneByte fun b => some (BitVec.ofNat 4 b.toNat)).Takes (u8 (1 : PortSet).toNat) 1 :=
    chunk_takes (by decide) (by decide)
  have line : readLine.Takes (lineBytes (false, 512, 176)) (false, 512, 176) := chunk_takes (by decide) (by decide)
  have link : readLink.Takes WallLink.blank.bytes WallLink.blank := chunk_takes (by decide +kernel) (by decide +kernel)
  have hold : readHold.Takes (u16 25) 25 := chunk_takes (by decide) (by decide)
  have sets : (table 4 readSet).Takes (ImageBody.defaults.sets.toList.flatMap TransitionSet.bytes)
      ImageBody.defaults.sets := by
    refine table_takes _ fun a ha => ?_
    rcases (by simpa [ImageBody.defaults] using ha : a = ⟨1, .linear⟩ ∨ a = ⟨25, .linear⟩) with rfl | rfl <;>
      exact chunk_takes (by decide) (by decide +kernel)
  have timing : readTiming.Takes (TimingValues.bytes ⟨.r50, 2, 250, 0, 128⟩) ⟨.r50, 2, 250, 0, 128⟩ :=
    chunk_takes (by decide) (by decide +kernel)
  have ports : (table 4 readPort).Takes (portBytes ImageBody.defaults.roles ImageBody.defaults.rates)
      #v[(.engineering, .r115200), (.operator, .r115200), (.operator, .r115200), (.operator, .r115200)] := by
    have h := table_takes (r := readPort) (write := fun x => u8 x.1.code ++ u8 x.2.code)
      #v[(PortRole.engineering, LineRate.r115200), (.operator, .r115200), (.operator, .r115200), (.operator, .r115200)]
      (fun a ha => by
        rcases (by simpa using ha : a = (.engineering, .r115200) ∨ a = (.operator, .r115200)) with rfl | rfl <;>
          exact chunk_takes (by decide) (by decide))
    exact h
  have level : (oneByte fun b => some (clampNat 1 7 b.toNat)).Takes (u8 1) 1 := chunk_takes (by decide) (by decide)
  have program : (oneByte bankName?).Takes (u8 BankName.a.code) .a := chunk_takes (by decide) (by decide)
  have count : readCount.Takes (u16 0) 0 := chunk_takes (by decide) (by decide)
  exact readBody_bytes _ _ (table_takes_replicate patch) (table_takes_replicate shot)
    (table_takes_replicate (write := fun g : Guard => u8 g.code) guard)
    (table_takes_replicate (write := fun g : Guard => u8 g.code) guard)
    (table_takes_replicate (write := fun r : PortSet => u8 r.toNat) route) (table_takes_replicate line)
    (table_takes_replicate link) (table_takes_replicate hold) sets timing ports (by decide) (by decide) blankBank_takes
    blankBank_takes program count (fun _ => rfl) (table_takes_replicate level)

/-- The bytes of a table of equal records. -/
theorem replicate_bytes {α : Type} {n width : Nat} (write : α → List Byte) (a : α) (h : (write a).length = width) :
    ((Vector.replicate n a).toList.flatMap write).length = n * width := by
  simp [List.length_flatMap, h]

/-- A good image: the default body as a save stores it. -/
theorem witness_HardResetLoadsTheImage : loadImage (some ImageBody.defaults.image) = some ImageBody.defaults := by
  have read := defaults_read
  have lawful := witness_SavedImagesLoad.2
  rw [loadImage_image, goodBody_bytes _ read lawful]
  have patch : (ImageBody.defaults.patch.toList.flatMap PatchRec.bytes).length = 1024 * 17 := replicate_bytes _ _ rfl
  have windows : (Bank.blank.windows.toList.flatMap WindowRec.bytes).length = 32 * 22 := replicate_bytes _ _ rfl
  have channels : (Bank.blank.channels.toList.flatMap ChannelRec.bytes).length = 1024 * 5 := replicate_bytes _ _ rfl
  have bank : Bank.blank.bytes.length = 5827 := by
    simp only [Bank.bytes, List.length_append, windows, channels]
    rfl
  have bankA : ImageBody.defaults.bankA.bytes.length = 5827 := bank
  have bankB : ImageBody.defaults.bankB.bytes.length = 5827 := bank
  simp only [ImageBody.bytes, List.length_append, patch, bankA, bankB]
  decide +kernel

theorem witness_HardResetLoadsTheImage_none : loadImage State.reset.image.stored = none := rfl

end Sys2Proof.Tests
end

section
/-! PROOF. TAKE by the state of the transition context (R25): what a TAKE stores, what its request answers under every
payload, and the TAKE action. -/

namespace Sys2Proof.Machine

/-! ### What a TAKE stores -/

/-- A TAKE in an idle context makes the named set pending. -/
theorem State.takeSet_of_idle {s : State} (idle : s.scene.trans = .idle) (n : SetNo) :
    s.takeSet n = { s with scene := { s.scene with trans := .pending n } } := by
  simp only [State.takeSet, idle, Transition.take]

/-- A TAKE while another is pending changes nothing: the set that was named first stays. -/
theorem State.takeSet_of_pending {s : State} {m : SetNo} (pending : s.scene.trans = .pending m) (n : SetNo) :
    s.takeSet n = s := by
  have same : (s.scene.trans.take n).2 = s.scene.trans := by rw [pending]; rfl
  rw [State.takeSet, same]

/-- A TAKE in a running transition sets hurry, whichever set it names. -/
theorem State.takeSet_of_running {s : State} {r : Running} (running : s.scene.trans = .running r) (n : SetNo) :
    s.takeSet n = { s with scene := { s.scene with trans := .running { r with hurry := true } } } := by
  simp only [State.takeSet, running, Transition.take]

/-! ### The request at the Scene Memory -/

/-- The payload that carries a set's number names that set. -/
theorem takeTake_set (s : State) (n : SetNo) :
    takeTake [BitVec.ofNat 8 n.val] s = ⟨(s.scene.trans.take n).1, [], s.takeSet n⟩ := by
  have byte : (BitVec.ofNat 8 n.val).toNat = n.val := by
    rw [BitVec.toNat_ofNat]
    omega
  simp [takeTake, byte, index, withFields]

/-- The empty payload names set 0. -/
theorem takeTake_nil (s : State) : takeTake [] s = ⟨(s.scene.trans.take 0).1, [], s.takeSet 0⟩ := rfl

/-- A number that is no set's is refused. -/
theorem takeTake_range (s : State) {b : Byte} (high : 4 ≤ b.toNat) : takeTake [b] s = refuse s .range := by
  simp [takeTake, index, Nat.not_lt.2 high, withFields]

/-- TAKE raises no alert and touches no port, whatever its payload. -/
theorem takeTake_ports (payload : List Byte) (s : State) : (takeTake payload s).state.ports = s.ports := by
  match payload with
  | [] => rfl
  | [b] =>
    by_cases low : b.toNat < 4
    · simp [takeTake, index, low, withFields]
    · rw [takeTake_range s (Nat.le_of_not_lt low)]
      rfl
  | _ :: _ :: _ => rfl

/-! ### The request on its port -/

/-- TAKE is no engineering request, stands under no lock and names no item, so that the Access Unit lets it through on
every port and under every claim (R136, R139, R142). -/
theorem State.answer_take (s : State) (p : Port) (payload : List Byte) :
    s.answer p 0x09 payload = takeTake payload s := by
  have role : engineering 0x09 = true → s.access.roles[p] = .engineering := fun e => absurd e (by decide)
  have lock : s.access.lockedOut 0x09 = false := by simp [AccessUnit.lockedOut]
  have items : s.itemsNamed p 0x09 payload = [] := rfl
  rw [State.answer_passes rfl role lock (by rw [items]; simp), takeByCode_09]

/-- A TAKE on a ready port is answered at once with what the Scene Memory says of it. -/
theorem exec_take {s : State} {p : Port} {tag : Byte} {payload : List Byte} (quiet : s.quiet) (ready : s.ready p)
    (fits : payload.length ≤ 1020) {result : ReplyCode} {data : List Byte} {t : State}
    (taken : takeTake payload s = ⟨result, data, t⟩) :
    exec (.take ⟨p, tag, payload⟩) s = .next (t.replied p 0x09 tag result s.ref.counter data) := by
  have ports : t.ports = s.ports := by
    simpa only [taken] using takeTake_ports payload s
  have quiet' : t.quiet := by
    rw [State.quiet, ports]
    exact quiet
  exact State.request_done (r := ⟨p, tag, payload⟩) ready fits 0x09 ((s.answer_take p payload).trans taken) quiet'

/-- Both forms of a TAKE, the one that names set `n` and the one that names none, are answered alike where the context
answers every set with one code and leaves what `after` says of the set. -/
theorem exec_take_forms {s : State} {p : Port} {tag : Byte} (quiet : s.quiet) (ready : s.ready p)
    {result : ReplyCode} {after : SetNo → State} (code : ∀ n, (s.scene.trans.take n).1 = result)
    (left : ∀ n, s.takeSet n = after n) (n : SetNo) :
    exec (.take ⟨p, tag, [BitVec.ofNat 8 n.val]⟩) s =
        .next ((after n).replied p 0x09 tag result s.ref.counter []) ∧
      exec (.take ⟨p, tag, []⟩) s = .next ((after 0).replied p 0x09 tag result s.ref.counter []) := by
  constructor
  · exact exec_take quiet ready (by simp) (by rw [takeTake_set, code, left])
  · exact exec_take quiet ready (by simp) (by rw [takeTake_nil, code, left])

/-! ### The action -/

/-- A TAKE action names no item and meets no guard: on every stack it is the TAKE itself (R103). -/
theorem State.act_take (s : State) (k : StackNo) (cue place : Nat) (n : SetNo) :
    s.act k cue place (.take n) = s.takeSet n := by
  simp [State.act, Action.items, State.actEffect]

/-- Settles O34: the request is answered by the row of its context, and the action is the same change of the context. -/
theorem takeByContext : Obligations.TakeByContext := by
  refine ⟨fun s p tag n quiet ready => ⟨fun idle => ?_, fun m pending => ?_, fun r running => ?_⟩,
    fun s p tag b quiet ready high => ?_, fun s k cue place n => s.act_take k cue place n⟩
  · exact exec_take_forms quiet ready (fun _ => by rw [idle]; rfl) (State.takeSet_of_idle idle) n
  · exact exec_take_forms quiet ready (fun _ => by rw [pending]; rfl) (State.takeSet_of_pending pending) n
  · exact exec_take_forms quiet ready (fun _ => by rw [running]; rfl) (State.takeSet_of_running running) n
  · exact exec_take quiet ready (by simp) (takeTake_range s high)

end Sys2Proof.Machine
end

section
/-! PROOF. UNCLAIM and YIELD by the claim's state (R147, R150): what a request that names a claim by its id finds, what
the two answer of each claim, and what they leave on the ports. -/

namespace Sys2Proof.Machine

/-! ### A request that names a claim by its id -/

/-- No claim has an id above 63. -/
theorem withClaim_range (s : State) {b : Byte} (high : 64 ≤ b.toNat) (f : ClaimId → Claim → Answer) :
    withClaim s [b] f = refuse s .range := by
  simp [withClaim, index, Nat.not_lt.2 high, withFields]

/-- The byte that carries a claim's id names that entry of the claim table. -/
theorem index_claimId (id : ClaimId) : index 64 (BitVec.ofNat 8 id.val).toNat = .ok id := by
  have byte : (BitVec.ofNat 8 id.val).toNat = id.val := by
    rw [BitVec.toNat_ofNat]
    omega
  simp [index, byte]

/-- A free entry of the claim table is not found. -/
theorem withClaim_of_free {s : State} {id : ClaimId} (free : s.access.claims[id] = none)
    (f : ClaimId → Claim → Answer) : withClaim s [BitVec.ofNat 8 id.val] f = refuse s .notFound := by
  simp only [withClaim, index_claimId, withFields, free]

/-- An entry in use is found with the claim it holds. -/
theorem withClaim_of_used {s : State} {id : ClaimId} {c : Claim} (used : s.access.claims[id] = some c)
    (f : ClaimId → Claim → Answer) : withClaim s [BitVec.ofNat 8 id.val] f = f id c := by
  simp only [withClaim, index_claimId, withFields, used]

/-! ### UNCLAIM and YIELD at the Access Unit -/

section
variable {s : State} {p : Port} {id : ClaimId} {c : Claim}

/-- UNCLAIM leaves the claim of another port alone. -/
theorem takeUnclaim_of_notOwner (used : s.access.claims[id] = some c) (other : c.owner ≠ p) :
    takeUnclaim p [BitVec.ofNat 8 id.val] s = notOwner s id := by
  rw [takeUnclaim, withClaim_of_used used, if_pos other]

/-- UNCLAIM by the owner frees a HELD claim. -/
theorem takeUnclaim_of_held (used : s.access.claims[id] = some c) (own : c.owner = p) (held : c.contest = none) :
    takeUnclaim p [BitVec.ofNat 8 id.val] s = okay (s.setClaim id none) := by
  rw [takeUnclaim, withClaim_of_used used, if_neg (not_not_intro own), held]

/-- UNCLAIM by the owner hands a CONTESTED claim over. -/
theorem takeUnclaim_of_contested {w : Contest} (used : s.access.claims[id] = some c) (own : c.owner = p)
    (contested : c.contest = some w) :
    takeUnclaim p [BitVec.ofNat 8 id.val] s = okay (s.transfer id c w .unclaimed) := by
  rw [takeUnclaim, withClaim_of_used used, if_neg (not_not_intro own), contested]

/-- YIELD leaves the claim of another port alone. -/
theorem takeYield_of_notOwner (used : s.access.claims[id] = some c) (other : c.owner ≠ p) :
    takeYield p [BitVec.ofNat 8 id.val] s = notOwner s id := by
  rw [takeYield, withClaim_of_used used, if_pos other]

/-- YIELD has no port to hand a HELD claim to. -/
theorem takeYield_of_held (used : s.access.claims[id] = some c) (own : c.owner = p) (held : c.contest = none) :
    takeYield p [BitVec.ofNat 8 id.val] s = refuse s .notContested := by
  rw [takeYield, withClaim_of_used used, if_neg (not_not_intro own), held]

/-- YIELD by the owner hands a CONTESTED claim over. -/
theorem takeYield_of_contested {w : Contest} (used : s.access.claims[id] = some c) (own : c.owner = p)
    (contested : c.contest = some w) :
    takeYield p [BitVec.ofNat 8 id.val] s = okay (s.transfer id c w .yielded) := by
  rw [takeYield, withClaim_of_used used, if_neg (not_not_intro own), contested]

end

/-! ### The requests on their port -/

/-- A request that is no engineering request, stands under no lock and names no item goes to its block on every port
and under every claim (R136, R139, R142). -/
theorem State.answer_unchecked {s : State} {p : Port} {code : Byte} {payload : List Byte}
    (known : knownCode code = true) (anyRole : engineering code = false) (lock : s.access.lockedOut code = false)
    (items : s.itemsNamed p code payload = []) : s.answer p code payload = takeByCode p code payload s :=
  State.answer_passes known (fun e => absurd e (by simp [anyRole])) lock (by simp [items])

/-- A request row on a ready port answers the state its block leaves with the reply started, and then every notice that
its alerts owe to an IDLE port (R183). -/
theorem State.request_done_notices {s t : State} {r : Sys2Proof.Request} (ready : s.ready r.port)
    (fits : r.payload.length ≤ 1020) (code : Byte) {result : ReplyCode} {data : List Byte}
    (a : s.answer r.port code r.payload = ⟨result, data, t⟩) :
    (s.request code r).done = .next (t.replied r.port code r.tag result s.ref.counter data).startNotices := by
  rw [State.request_ready ready fits, a, State.done]

/-- Giving an entry of the claim table a new value owes no notice. -/
theorem State.setClaim_quiet {s : State} (quiet : s.quiet) (id : ClaimId) (c : Option Claim) :
    (s.setClaim id c).quiet := by
  rw [State.quiet, State.setClaim_ports]
  exact quiet

section
variable {s t : State} {p : Port} {tag b : Byte} {result : ReplyCode} {data : List Byte}

/-- The Access Unit lets UNCLAIM through unchecked. -/
theorem State.answer_unclaim (s : State) (p : Port) (payload : List Byte) :
    s.answer p 0x14 payload = takeUnclaim p payload s := by
  rw [State.answer_unchecked rfl rfl (by simp [AccessUnit.lockedOut]) rfl, takeByCode_14]

/-- The Access Unit lets YIELD through unchecked. -/
theorem State.answer_yield (s : State) (p : Port) (payload : List Byte) :
    s.answer p 0x16 payload = takeYield p payload s := by
  rw [State.answer_unchecked rfl rfl (by simp [AccessUnit.lockedOut]) rfl, takeByCode_16]

/-- An UNCLAIM is answered with what the Access Unit says of it, and the notices it owes start. -/
theorem exec_unclaim_notices (ready : s.ready p) (taken : takeUnclaim p [b] s = ⟨result, data, t⟩) :
    exec (.unclaim ⟨p, tag, [b]⟩) s = .next (t.replied p 0x14 tag result s.ref.counter data).startNotices :=
  State.request_done_notices (r := ⟨p, tag, [b]⟩) ready (by simp) 0x14 ((s.answer_unclaim p [b]).trans taken)

/-- A YIELD is answered with what the Access Unit says of it, and the notices it owes start. -/
theorem exec_yield_notices (ready : s.ready p) (taken : takeYield p [b] s = ⟨result, data, t⟩) :
    exec (.yieldClaim ⟨p, tag, [b]⟩) s = .next (t.replied p 0x16 tag result s.ref.counter data).startNotices :=
  State.request_done_notices (r := ⟨p, tag, [b]⟩) ready (by simp) 0x16 ((s.answer_yield p [b]).trans taken)

/-- An UNCLAIM that leaves no notice owed leaves the reply alone beside its own effect. -/
theorem exec_unclaim (ready : s.ready p) (taken : takeUnclaim p [b] s = ⟨result, data, t⟩) (quiet : t.quiet) :
    exec (.unclaim ⟨p, tag, [b]⟩) s = .next (t.replied p 0x14 tag result s.ref.counter data) := by
  rw [exec_unclaim_notices ready taken, State.startNotices_of_quiet (State.replied_quiet quiet _ _ _ _ _ _)]

/-- A YIELD that leaves no notice owed leaves the reply alone beside its own effect. -/
theorem exec_yield (ready : s.ready p) (taken : takeYield p [b] s = ⟨result, data, t⟩) (quiet : t.quiet) :
    exec (.yieldClaim ⟨p, tag, [b]⟩) s = .next (t.replied p 0x16 tag result s.ref.counter data) := by
  rw [exec_yield_notices ready taken, State.startNotices_of_quiet (State.replied_quiet quiet _ _ _ _ _ _)]

end

/-- Settles O47: by what the id names, an id above 63, a free entry, and the claim of another port, HELD or CONTESTED. -/
theorem claimsAreGivenUp : Obligations.ClaimsAreGivenUp := by
  refine fun s p tag quiet ready => ⟨fun b high => ⟨?_, ?_⟩, fun id free => ⟨?_, ?_⟩, fun id c used =>
    ⟨fun other => ⟨?_, ?_⟩, fun own held => ⟨?_, ?_⟩, fun w own contested => ?_⟩⟩
  · exact exec_unclaim ready (withClaim_range s high _) quiet
  · exact exec_yield ready (withClaim_range s high _) quiet
  · exact exec_unclaim ready (withClaim_of_free free _) quiet
  · exact exec_yield ready (withClaim_of_free free _) quiet
  · exact exec_unclaim ready (takeUnclaim_of_notOwner used other) quiet
  · exact exec_yield ready (takeYield_of_notOwner used other) quiet
  · exact exec_unclaim ready (takeUnclaim_of_held used own held) (State.setClaim_quiet quiet id none)
  · exact exec_yield ready (takeYield_of_held used own held) quiet
  · subst own
    constructor
    · exact exec_unclaim_notices ready (takeUnclaim_of_contested used rfl contested)
    · exact exec_yield_notices ready (takeYield_of_contested used rfl contested)

end Sys2Proof.Machine
end

section
/-! PROOF. What a command can do, said once: every command is a run of small changes, each of which says what its block
checked before it. An invariant is then kept by every command when each small change keeps it. -/

namespace Sys2Proof.Machine

/-! ### The changes that a MARK is made of -/

/-- A transition context after any number of TAKEs (R25): a pending take stays, a running transition may have been told
to hurry. -/
def Transition.TakenTo (t u : Transition) : Prop :=
  (∀ n, t = .pending n → u = .pending n) ∧
    ∀ r, t = .running r → u = .running r ∨ u = .running { r with hurry := true }

theorem Transition.TakenTo.refl (t : Transition) : t.TakenTo t := ⟨fun _ h => h, fun _ h => .inl h⟩

theorem Transition.takenTo_take (t : Transition) (n : SetNo) : t.TakenTo (t.take n).2 := by
  cases t <;> simp [TakenTo, take]

/-- What a stack's record may become by its own moves: its level stays, it stands on a cue of its list or at END, its
loop context names a cue of its list, and at a takeover level it is neither newly REPEATING nor newly ARMED. -/
structure State.StackMove (s : State) (k : StackNo) (r r' : StackRec) : Prop where
  level : r'.level = r.level
  ended : (r.state = .ended ↔ r.position = none) → (r'.state = .ended ↔ r'.position = none)
  position : r'.position = r.position ∨ ∀ n, r'.position = some n → (s.cue.find k n).isSome = true
  loop : ∀ x', r'.loop = some x' →
    (∃ x, r.loop = some x ∧ x.startCue = x'.startCue) ∨ (s.cue.find k x'.startCue).isSome = true
  repeating : ∀ n i, r'.state = .repeating n i → ∃ n i, r.state = .repeating n i
  armed : isTakeover r.level = true → ∀ f g, r'.state = .armed f g → ∃ f g, r.state = .armed f g

/-- The stacks' records after a grant to stack `k` (R118). -/
def State.grantRecs (s : State) (k : StackNo) : Vector StackRec 8 :=
  tab fun j =>
    if j = k then (s.cue.recs[j]).grant
    else if s.presented j then (s.cue.recs[j]).lose
    else s.cue.recs[j]

/-- The preemption stack after a grant to stack `k` (R118). -/
def State.grantEntries (s : State) (k : StackNo) : List PreEntry :=
  if s.takeover.onTop k then s.takeover.stack else s.takeover.stack ++ [.level (s.cue.recs[k]).level k]

/-- One change of the running show: what the steps of a MARK are made of, beside the firings' writes to the override
table and the repeats. -/
inductive State.ShowChange (s : State) : State → Prop
  | alert (d : PortSet) (a : Alert) : ShowChange s (s.raiseTo d a)
  | choices (n : Nat) : ShowChange s { s with choices := n }
  | scene (m : SceneMemory) (program : m.program = s.scene.program) (trans : s.scene.trans.TakenTo m.trans) :
      ShowChange s { s with scene := m }
  | level (masters : Vector Nat 16) (fade : Nat) :
      ShowChange s { s with level := { s.level with masters := masters, releaseFade := fade } }
  | dequeue (queue : List Deferred) (fewer : queue.Sublist s.tally.queue) :
      ShowChange s { s with tally := { s.tally with queue := queue } }
  | enqueue (ds : List Deferred) (room : (ds.foldl joinQueue s.tally.queue).length ≤ 32) :
      ShowChange s { s with tally := { s.tally with queue := ds.foldl joinQueue s.tally.queue } }
  | stack (k : StackNo) (f : StackRec → StackRec) (move : s.StackMove k s.cue.recs[k] (f s.cue.recs[k])) :
      ShowChange s (s.modStack k f)
  | grant (k : StackNo) (chosen : s.grantee = some k) :
      ShowChange s { s with
        cue := { s.cue with recs := s.grantRecs k }
        takeover := { s.takeover with stack := s.grantEntries k } }
  | release (l : Nat) (k : StackNo) (holder : s.takeover.holder l = some k) :
      ShowChange s (State.modStack { s with takeover := { s.takeover with
        stack := s.takeover.stack.filter fun e => !e.isLevel l
        overrides := s.takeover.overrides.filter fun e => e.level != l } } k StackRec.halt)

/-- One change of a MARK: one of the running show, or a firing's write to the override table (R121), or a stack that
becomes REPEATING (R102). -/
inductive State.MarkChange (s : State) : State → Prop
  | running {t : State} (change : s.ShowChange t) : MarkChange s t
  | override (k : StackNo) (es : List Override) (takeover : isTakeover (s.cue.recs[k]).level = true)
      (level : ∀ e ∈ es, e.level = (s.cue.recs[k]).level)
      (room : newKeys s.takeover.overrides es ≤ s.takeover.freeEntries) :
      MarkChange s { s with takeover := { s.takeover with overrides := es.foldl writeOverride s.takeover.overrides } }
  | repeats (k : StackNo) (n i : Nat) (stands : (s.cue.recs[k]).position.isSome = true) :
      MarkChange s (s.modStack k fun r => { r with state := .repeating n i })

/-! ### The changes that every other command is made of -/

/-- What one claim may become but by CLAIM and ASK: freed, kept, left by the port that waited, or moved to it. -/
def Claim.Settles (before after : Option Claim) : Prop :=
  after = none ∨ ∃ c, before = some c ∧ (after = some c ∨ after = some { c with contest := none } ∨
    ∃ w, c.contest = some w ∧ after = some { c with owner := w.waiting, contest := none })

/-- The preemption stack that a new level of the emergency input and the latch leaves (R128). -/
def TakeoverUnit.withSafety (t : TakeoverUnit) (emergency latch : Bool) : TakeoverUnit :=
  { t with
    emergency := emergency
    latch := latch
    stack := match t.inForce, emergency || latch with
      | false, true => t.stack ++ [.safety]
      | true, false => t.stack.filter fun e => decide (e ≠ .safety)
      | _, _ => t.stack }

/-- One change that a command makes to the state, with what its block has checked before it. -/
inductive State.Change (s : State) : State → Prop
  | running {t : State} (change : s.ShowChange t) : Change s t
  | ref (r : RefUnit) (law : s.ref.legal → r.legal) : Change s { s with ref := r }
  | scene (m : SceneMemory) : Change s { s with scene := m }
  | wall (w : WallMapper) : Change s { s with wall := w }
  | image (i : ImageStore) : Change s { s with image := i }
  | ports (c : PortController) (keeps : ∀ q : Port, (c.port[q]).tx = (s.ports.port[q]).tx ∧
      (c.port[q]).queue = (s.ports.port[q]).queue ∧ (c.port[q]).overruns = (s.ports.port[q]).overruns ∧
      (c.port[q]).noticeOwed = (s.ports.port[q]).noticeOwed) :
      Change s { s with ports := c }
  | level (e : LevelEngine) (patch : e.patch = s.level.patch) : Change s { s with level := e }
  | patch (n : ChannelNo) (p : PatchRec) (fits : s.patchConflict n p = false) :
      Change s { s with level := { s.level with patch := s.level.patch.set n p } }
  | lines (ls : Vector Line 8)
      (slots : ∀ l : LineNo, (ls[l]).slots = (s.lines[l]).slots ∨ highestSlot s.level.patch l ≤ (ls[l]).slots) :
      Change s { s with lines := ls }
  | tally (t : TallyUnit) (fewer : t.queue.Sublist s.tally.queue) : Change s { s with tally := t }
  | access (a : AccessUnit) (claims : a.claims = s.access.claims)
      (engineer : s.access.hasEngineer → a.hasEngineer) : Change s { s with access := a }
  | claims (cs : Vector (Option Claim) 64) (settles : ∀ id : ClaimId, Claim.Settles s.access.claims[id] cs[id]) :
      Change s { s with access := { s.access with claims := cs } }
  | claim (id : ClaimId) (p : Port) (r : ClaimRange) (auto : Bool) (free : s.access.claims[id] = none)
      (apart : s.access.claimConflict p r = false) : Change s (s.setClaim id (some ⟨p, r, auto, none⟩))
  | contest (id : ClaimId) (c : Claim) (w : Contest) (used : s.access.claims[id] = some c)
      (other : c.owner ≠ w.waiting) (apart : s.access.sharedByOwner id c = false) :
      Change s (s.setClaim id (some { c with contest := some w }))
  | grace (n : Nat) : Change s { s with cue := { s.cue with lateGrace := n } }
  | store (q : Cue) (number : 1 ≤ q.number ∧ q.number ≤ 9999)
      (actions : 1 ≤ q.body.actions.length ∧ q.body.actions.length ≤ 16)
      (slots : ∀ old, s.cue.find q.stack q.number = some old →
        q.body.actions.length ≤ s.cue.freeSlots + old.body.actions.length)
      (room : s.cue.find q.stack q.number = none → 1 ≤ s.cue.freeRecords ∧ q.body.actions.length ≤ s.cue.freeSlots) :
      Change s { s with cue := { s.cue with store := insertCue q s.cue.store } }
  | delete (k : StackNo) (n : Nat) :
      Change s (State.afterDelete { s with cue := { s.cue with
        store := s.cue.store.filter fun q => !decide (q.stack = k ∧ q.number = n) } } k n)
  | stackLevel (k : StackNo) (l : Nat) (free : s.levelFree k = true) :
      Change s (s.modStack k fun r => { r with level := l })
  | restart : Change s { s with cue := s.cue.restart }
  | clear (rest : ∀ k : StackNo, (s.cue.recs[k]).state.settled = true) :
      Change s { s with takeover := { s.takeover with
        stack := s.takeover.stack.filter fun e => decide (e = .safety)
        overrides := [] } }
  | fades (fade wall : Nat) : Change s { s with takeover := { s.takeover with safetyFade := fade, safetyWall := wall } }
  | safety (emergency latch : Bool) : Change s { s with takeover := s.takeover.withSafety emergency latch }

/-- A run of changes of the running show. -/
def State.ShowChanges : State → State → Prop := Relation.ReflTransGen State.ShowChange
/-- A run of changes of a MARK. -/
def State.MarkChanges : State → State → Prop := Relation.ReflTransGen State.MarkChange
/-- A run of changes. -/
def State.Changes : State → State → Prop := Relation.ReflTransGen State.Change

end Sys2Proof.Machine
end

section
/-! PROOF. The operations that a MARK and the requests share, as runs of small changes: alerts, guarded writes, GO, the
grant, the actions of a firing and the whole MARK. -/

namespace Sys2Proof.Machine

open Relation

theorem State.ShowChange.run {s t : State} (h : s.ShowChange t) : s.ShowChanges t := .single h
theorem State.ShowChanges.refl (s : State) : s.ShowChanges s := ReflTransGen.refl
theorem State.ShowChanges.trans {s t u : State} (a : s.ShowChanges t) (b : t.ShowChanges u) : s.ShowChanges u :=
  ReflTransGen.trans a b
theorem State.ShowChanges.mark {s t : State} (h : s.ShowChanges t) : s.MarkChanges t :=
  ReflTransGen.mono (p := State.MarkChange) (fun _ _ => MarkChange.running) _ _ h
theorem State.ShowChanges.changes {s t : State} (h : s.ShowChanges t) : s.Changes t :=
  ReflTransGen.mono (p := State.Change) (fun _ _ => Change.running) _ _ h
theorem State.MarkChange.run {s t : State} (h : s.MarkChange t) : s.MarkChanges t := .single h
theorem State.MarkChanges.refl (s : State) : s.MarkChanges s := ReflTransGen.refl
theorem State.MarkChanges.trans {s t u : State} (a : s.MarkChanges t) (b : t.MarkChanges u) : s.MarkChanges u :=
  ReflTransGen.trans a b
theorem State.Change.run {s t : State} (h : s.Change t) : s.Changes t := .single h
theorem State.Changes.refl (s : State) : s.Changes s := ReflTransGen.refl
theorem State.Changes.trans {s t u : State} (a : s.Changes t) (b : t.Changes u) : s.Changes u := ReflTransGen.trans a b

/-! ### Alerts -/

theorem State.raiseTo_changes (s : State) (d : PortSet) (a : Alert) : s.ShowChanges (s.raiseTo d a) :=
  (ShowChange.alert d a).run

theorem State.raiseAll_changes (l : List (PortSet × Alert)) (s : State) :
    s.ShowChanges (l.foldl (fun s x => s.raiseTo x.1 x.2) s) := by
  induction l generalizing s with
  | nil => exact .refl s
  | cons x l ih => exact (s.raiseTo_changes _ _).trans (ih _)

theorem State.raiseTogether_changes (s : State) (l : List (PortSet × Alert)) : s.ShowChanges (s.raiseTogether l) := by
  match l with
  | [] => exact .refl s
  | [x] => exact s.raiseTo_changes _ _
  | x :: y :: l => exact (ShowChange.choices (s.choices + 1)).run.trans (State.raiseAll_changes _ _)

theorem State.raiseGuardAlert_changes (s : State) (items : List GuardedItem) (writer : Writer) (kind : WriteKind) :
    s.ShowChanges (s.raiseGuardAlert items writer kind) := by
  unfold State.raiseGuardAlert
  split
  · split
    · exact s.raiseTo_changes _ _
    · exact .refl s
  · exact .refl s

/-! ### Writes to the banks and masters -/

theorem SceneMemory.modBank_program (m : SceneMemory) (n : BankName) (f : Bank → Bank) :
    (m.modBank n f).program = m.program := by cases n <;> rfl

theorem SceneMemory.modBank_trans (m : SceneMemory) (n : BankName) (f : Bank → Bank) :
    (m.modBank n f).trans = m.trans := by cases n <;> rfl

theorem State.modBank_change (s : State) (n : BankName) (f : Bank → Bank) :
    s.ShowChange { s with scene := s.scene.modBank n f } :=
  .scene _ (s.scene.modBank_program n f) (by rw [s.scene.modBank_trans n f]; exact .refl _)

theorem State.writeItem_changes (s : State) (w : ItemWrite) : s.ShowChanges (s.writeItem w) := by
  cases w with
  | channel n c level fade curve => exact (s.modBank_change n _).run
  | window n w v => exact (s.modBank_change n _).run
  | master g v => exact (ShowChange.level _ s.level.releaseFade).run

theorem State.directWrite_changes (s : State) (w : ItemWrite) : s.ShowChanges (s.directWrite w) :=
  (s.writeItem_changes w).trans (ShowChange.dequeue _ List.filter_sublist).run

theorem State.directWrites_changes (ws : List ItemWrite) (s : State) :
    s.ShowChanges (ws.foldl State.directWrite s) := by
  induction ws generalizing s with
  | nil => exact .refl s
  | cons w ws ih => exact (s.directWrite_changes w).trans (ih _)

theorem State.guardWrite_changes {s t : State} {writer : Writer} {ws : List ItemWrite} {deferred : Bool}
    (h : s.guardWrite writer ws = .passed t deferred) : s.ShowChanges t := by
  obtain ⟨queue, items, kind, rfl, room, held, rfl⟩ := State.guardWrite_passed h
  refine State.ShowChanges.trans ?_ ((State.directWrites_changes _ _).trans (State.raiseGuardAlert_changes _ _ _ _))
  have join := List.foldl_map (f := fun w => (⟨w, writer⟩ : Deferred)) (g := joinQueue)
    (l := ws.filter fun w => decide (s.guardOf w = some .defer)) (init := s.tally.queue)
  rw [← join] at room ⊢
  by_cases none : (ws.filter fun w => decide (s.guardOf w = some .defer)).isEmpty = true
  · rw [List.isEmpty_iff.1 none]
    exact .refl s
  · exact (ShowChange.enqueue _ (room (by simpa [none] using held))).run

theorem State.copyBanks_changes (s : State) : s.ShowChanges s.copyBanks :=
  (s.modBank_change s.scene.program.other fun _ => s.scene.bank s.scene.program).run.trans
    (ShowChange.dequeue _ List.filter_sublist).run

theorem State.takeSet_changes (s : State) (n : SetNo) : s.ShowChanges (s.takeSet n) :=
  (ShowChange.scene { s.scene with trans := (s.scene.trans.take n).2 } rfl (s.scene.trans.takenTo_take n)).run

/-! ### Stacks -/

/-- A change of a stack's record that keeps its level, position, state and loop context. -/
theorem State.StackMove.of_flags {s : State} {k : StackNo} {r r' : StackRec} (level : r'.level = r.level)
    (position : r'.position = r.position) (state : r'.state = r.state) (loop : r'.loop = r.loop) :
    s.StackMove k r r' where
  level := level
  ended := by rw [position, state]; exact id
  position := .inl position
  loop x' h := .inl ⟨x', by rw [← loop, h], rfl⟩
  repeating n i h := ⟨n, i, by rw [← state, h]⟩
  armed _ f g h := ⟨f, g, by rw [← state, h]⟩

/-- A stack that stands on a cue goes on standing there, waiting. -/
theorem State.StackMove.of_waiting {s : State} {k : StackNo} {r r' : StackRec} {n : Nat} (on : r.state ≠ .ended)
    (level : r'.level = r.level) (position : r'.position = r.position) (state : r'.state = .waiting n)
    (loop : r'.loop = r.loop) : s.StackMove k r r' where
  level := level
  ended h := by
    rw [position, state]
    exact ⟨fun e => (nomatch e), fun p => absurd (h.2 p) on⟩
  position := .inl position
  loop x' h := .inl ⟨x', by rw [← loop, h], rfl⟩
  repeating n i h := by rw [state] at h; cases h
  armed _ f g h := by rw [state] at h; cases h

theorem StackRec.halt_ended (r : StackRec) : r.halt.state = .ended ↔ r.halt.position = none := by
  cases h : r.position <;> simp [StackRec.halt, h]

/-- A halted stack stands where it was, or where its halt puts it. -/
theorem State.StackMove.of_halt {s : State} {k : StackNo} {r r' : StackRec} (level : r'.level = r.level)
    (position : r'.position = r.position ∨ ∀ n, r'.position = some n → (s.cue.find k n).isSome = true)
    (state : r'.state = if r'.position.isSome then .idle else .ended) (loop : r'.loop = none) : s.StackMove k r r' where
  level := level
  ended _ := by rw [state]; cases r'.position <;> simp
  position := position
  loop x' h := by rw [loop] at h; cases h
  repeating n i h := by rw [state] at h; split at h <;> cases h
  armed _ f g h := by rw [state] at h; split at h <;> cases h

theorem State.modStack_changes {s : State} {k : StackNo} {f : StackRec → StackRec}
    (move : s.StackMove k s.cue.recs[k] (f s.cue.recs[k])) : s.ShowChanges (s.modStack k f) :=
  (ShowChange.stack k f move).run

/-- A change of a stack's chained GO, pending GO and count of skipped actions. -/
theorem State.flags_changes (s : State) (k : StackNo) (c p : StackRec → Bool) (n : StackRec → Nat) :
    s.ShowChanges (s.modStack k fun r => { r with chainedGo := c r, pendingGo := p r, skipped := n r }) :=
  State.modStack_changes (.of_flags rfl rfl rfl rfl)

theorem State.takeoverGo_changes (s : State) (k : StackNo) (on : (s.cue.recs[k]).state ≠ .ended) :
    s.ShowChanges (s.takeoverGo k).2 := by
  have accept : s.ShowChanges (s.modStack k StackRec.accept) :=
    State.modStack_changes (.of_waiting on rfl rfl rfl rfl)
  have pend : s.ShowChanges (s.modStack k fun r => { r with pendingGo := true }) :=
    s.flags_changes k StackRec.chainedGo (fun _ => true) StackRec.skipped
  unfold State.takeoverGo
  dsimp only
  split
  · exact accept
  · split
    · exact pend
    · split
      · exact .refl s
      · split
        · exact accept
        · exact pend

theorem State.goEffect_changes (s : State) (k : StackNo) : s.ShowChanges (s.goEffect k).2 := by
  unfold State.goEffect
  dsimp only
  split
  · exact .refl s
  · exact .refl s
  · rename_i on _
    split
    · split
      · exact .refl s
      · exact State.modStack_changes (.of_waiting on rfl rfl rfl rfl)
    · exact s.takeoverGo_changes k on

theorem State.takeChained_changes (s : State) (k : StackNo) : s.ShowChanges (s.takeChained k) := by
  unfold State.takeChained
  split
  · exact (s.flags_changes k (fun _ => false) StackRec.pendingGo StackRec.skipped).trans (State.goEffect_changes _ k)
  · exact .refl s

theorem State.takeAllChained_changes (s : State) : s.ShowChanges s.takeAllChained := by
  have fold : ∀ (l : List StackNo) (s : State), s.ShowChanges (l.foldl State.takeChained s) := by
    intro l
    induction l with
    | nil => exact fun s => .refl s
    | cons k l ih => exact fun s => (s.takeChained_changes k).trans (ih _)
  exact fold _ s

theorem State.grant_changes (s : State) : s.ShowChanges s.grant := by
  unfold State.grant
  split
  · exact .refl s
  · rename_i k chosen
    refine (ShowChange.grant k chosen).run.trans ?_
    dsimp only
    split
    · rename_i top
      simp only [State.grantEntries, top, if_true]
      exact State.raiseTo_changes _ _ _
    · rename_i below
      simp only [State.grantEntries, below]
      exact State.raiseTo_changes _ _ _

theorem State.release_changes {s : State} {l : Nat} {k : StackNo} (fade : Nat) (holder : s.takeover.holder l = some k) :
    s.ShowChanges (s.release l k fade) :=
  ((ShowChange.release l k holder).run.trans (ShowChange.level s.level.masters fade).run).trans
    (State.raiseTo_changes _ _ _)

/-! ### The actions of a firing -/

theorem State.skipAction_changes (s : State) (k : StackNo) (cue place : Nat) (reason : SkipReason) :
    s.ShowChanges (s.skipAction k cue place reason) :=
  (s.flags_changes k StackRec.chainedGo StackRec.pendingGo fun r => satSucc 65535 r.skipped).trans
    (State.raiseTo_changes _ _ _)

theorem State.actionWrite_changes (s : State) (k : StackNo) (cue place : Nat) (busy : Bool) (ws : List ItemWrite) :
    s.ShowChanges (s.actionWrite k cue place busy ws) := by
  unfold State.actionWrite
  split
  · exact s.skipAction_changes _ _ _ _
  · split
    · exact s.skipAction_changes _ _ _ _
    · exact s.skipAction_changes _ _ _ _
    · exact State.guardWrite_changes ‹_›

theorem State.overrideWrite_changes (s : State) (k : StackNo) (cue place : Nat) (es : List Override)
    (takeover : isTakeover (s.cue.recs[k]).level = true) (level : ∀ e ∈ es, e.level = (s.cue.recs[k]).level) :
    s.MarkChanges (s.overrideWrite k cue place es) := by
  unfold State.overrideWrite
  dsimp only
  split
  · exact (s.skipAction_changes _ _ _ _).mark
  · split
    · exact ((s.skipAction_changes _ _ _ _).trans (State.raiseTo_changes _ _ _)).mark
    · rename_i room
      exact (MarkChange.override k es takeover level (Nat.le_of_not_lt room)).run.trans
        (State.raiseGuardAlert_changes _ _ _ _).mark

theorem State.actEffect_changes (s : State) (k : StackNo) (cue place : Nat) (a : Action) :
    s.MarkChanges (s.actEffect k cue place a) := by
  unfold State.actEffect
  cases a with
  | level role first last v d =>
    dsimp only
    split
    · exact s.overrideWrite_changes k cue place _ ‹_› (by simp)
    · exact (s.actionWrite_changes _ _ _ _ _).mark
  | window role w v =>
    dsimp only
    split
    · exact s.overrideWrite_changes k cue place _ ‹_› (by simp)
    · exact (s.actionWrite_changes _ _ _ _ _).mark
  | master g v => exact (s.actionWrite_changes _ _ _ _ _).mark
  | take n => exact (s.takeSet_changes n).mark
  | copy =>
    dsimp only
    split
    · exact (s.skipAction_changes _ _ _ _).mark
    · exact s.copyBanks_changes.mark
  | goStack j => exact (s.flags_changes j (fun _ => true) StackRec.pendingGo StackRec.skipped).mark

theorem State.act_changes (s : State) (k : StackNo) (cue place : Nat) (a : Action) :
    s.MarkChanges (s.act k cue place a) := by
  unfold State.act
  split
  · exact (s.skipAction_changes _ _ _ _).mark
  · exact s.actEffect_changes k cue place a

theorem State.actAll_changes (k : StackNo) (cue : Nat) (l : List Action) (s : State) (place : Nat) :
    s.MarkChanges (s.actAll k cue place l) := by
  induction l generalizing s place with
  | nil => exact .refl s
  | cons a l ih => exact (s.act_changes k cue place a).trans (ih _ _)

/-! ### A firing and the other steps of a stack -/

theorem CueUnit.find_some {c : CueUnit} {k : StackNo} {n : Nat} {q : Cue} (h : c.find k n = some q) :
    q ∈ c.store ∧ q.stack = k ∧ q.number = n := by
  have found := List.find?_some h
  exact ⟨List.mem_of_find?_eq_some h, by simpa using found⟩

/-- A loop marker's context is the one that stood, or starts at the cue itself (R107). -/
theorem loopStep_start (q : Cue) (loop : Option LoopContext) (x' : LoopContext)
    (h : (loopStep q loop).1 = some x') :
    (∃ x, loop = some x ∧ x.startCue = x'.startCue) ∨ x'.startCue = q.number := by
  unfold loopStep at h
  split at h
  · exact .inl ⟨x', h, rfl⟩
  · cases h; exact .inr rfl
  · cases h; exact .inl ⟨_, rfl, rfl⟩
  · cases h
  · split at h <;> cases h
    exact .inl ⟨_, rfl, rfl⟩

/-- The arrival at a cue of the list or at END, with the loop context of the marker (R94, R95, R107). -/
theorem State.StackMove.of_arrive {s : State} {k : StackNo} {r : StackRec} {q : Cue} {loop : Option LoopContext}
    {next : Option Nat} (stored : (s.cue.find k q.number).isSome = true) (own : r.loop = loop) :
    s.StackMove k r (({ r with loop := (loopStep q loop).1 } : StackRec).arrive
      (next.bind fun n => s.cue.find k n)) := by
  have context : ∀ x', (loopStep q loop).1 = some x' →
      (∃ x, r.loop = some x ∧ x.startCue = x'.startCue) ∨ (s.cue.find k x'.startCue).isSome = true := by
    intro x' h
    rw [own]
    rcases loopStep_start q loop x' h with old | new
    · exact .inl old
    · exact .inr (by rw [new]; exact stored)
  cases there : next.bind fun n => s.cue.find k n with
  | none => exact ⟨rfl, fun _ => ⟨fun _ => rfl, fun _ => rfl⟩, .inr fun n h => (nomatch h), context,
      fun n i h => (nomatch h), fun _ f g h => (nomatch h)⟩
  | some c =>
    obtain ⟨n, _, found⟩ := Option.bind_eq_some_iff.1 there
    obtain ⟨_, _, number⟩ := CueUnit.find_some found
    have state : (({ r with loop := (loopStep q loop).1 } : StackRec).arrive (some c)).state = .idle ∨
        (({ r with loop := (loopStep q loop).1 } : StackRec).arrive (some c)).state = .waiting c.body.wait := by
      cases h : c.body.trigger <;> simp [StackRec.arrive, h]
    refine ⟨rfl, fun _ => ?_, .inr fun m h => ?_, context, fun n i h => ?_, fun _ f g h => ?_⟩
    · refine ⟨fun h => ?_, fun h => (nomatch h)⟩
      rcases state with e | e <;> rw [e] at h <;> cases h
    · cases h
      rw [number, found]; rfl
    · rcases state with e | e <;> rw [e] at h <;> cases h
    · rcases state with e | e <;> rw [e] at h <;> cases h

/-- The state after the marker's NESTED_LOOP alert at the last firing of cue `q` (R107). -/
def State.loopAlerted (s : State) (k : StackNo) (q : Cue) : State :=
  match (loopStep q (s.cue.recs[k]).loop).2.2 with
  | some start => s.raiseStack k (.nestedLoop k q.number start s.ref.counter)
  | none => s

/-- The number of the cue that the last firing of cue `q` leads to (R95, R107). -/
def State.nextNumber (s : State) (k : StackNo) (q : Cue) : Option Nat :=
  match (loopStep q (s.cue.recs[k]).loop).2.1 with
  | some start => some start
  | none => s.cue.next k q.number

/-- The state after the arrival that follows the last firing of cue `q` (R95, R107). -/
def State.advanced (s : State) (k : StackNo) (q : Cue) : State :=
  (s.loopAlerted k q).modStack k fun r =>
    ({ r with loop := (loopStep q (s.cue.recs[k]).loop).1 } : StackRec).arrive
      ((s.nextNumber k q).bind fun n => s.cue.find k n)

/-- The last firing advances the stack, and then releases the level where the cue asks for it (R108, R109). -/
theorem State.lastFiring_eq (s : State) (k : StackNo) (q : Cue) : s.lastFiring k q =
    if isTakeover (s.cue.recs[k]).level && q.body.release then
      ((s.advanced k q).takeover.holder (s.cue.recs[k]).level).elim (s.advanced k q) fun j =>
        (s.advanced k q).release (s.cue.recs[k]).level j q.body.releaseFade
    else s.advanced k q := by
  have match_elim (x : Option StackNo) : x.elim (s.advanced k q) (fun j =>
      (s.advanced k q).release (s.cue.recs[k]).level j q.body.releaseFade) = match x with
        | some j => (s.advanced k q).release (s.cue.recs[k]).level j q.body.releaseFade
        | none => s.advanced k q := by cases x <;> rfl
  rw [match_elim]
  rfl

theorem State.loopAlerted_eq (s : State) (k : StackNo) (q : Cue) :
    s.loopAlerted k q = s ∨ ∃ d a, s.loopAlerted k q = s.raiseTo d a := by
  unfold State.loopAlerted
  split
  · exact .inr ⟨_, _, rfl⟩
  · exact .inl rfl

theorem State.advanced_changes (s : State) (k : StackNo) (q : Cue)
    (stored : (s.cue.find k q.number).isSome = true) : s.ShowChanges (s.advanced k q) := by
  unfold State.advanced
  rcases s.loopAlerted_eq k q with same | ⟨d, a, raised⟩
  · rw [same]
    exact State.modStack_changes (.of_arrive stored rfl)
  · rw [raised]
    exact (s.raiseTo_changes d a).trans (State.modStack_changes (.of_arrive (s := s.raiseTo d a) stored rfl))

theorem State.lastFiring_changes (s : State) (k : StackNo) (q : Cue)
    (stored : (s.cue.find k q.number).isSome = true) : s.ShowChanges (s.lastFiring k q) := by
  have advanced := s.advanced_changes k q stored
  rw [State.lastFiring_eq]
  split
  · cases holder : (s.advanced k q).takeover.holder (s.cue.recs[k]).level with
    | none => exact advanced
    | some j => exact advanced.trans (State.release_changes _ holder)
  · exact advanced

/-- A stack whose position names no cue of its list does not fire. -/
theorem State.fire_of_none {s : State} {k : StackNo}
    (empty : ((s.cue.recs[k]).position.bind fun n => s.cue.find k n) = none) (again : Option Nat) :
    s.fire k again = s := by
  unfold State.fire
  rw [empty]

/-- A firing takes its cue's actions and then fires for the last time or leaves the stack REPEATING (R102). -/
theorem State.fire_of_some {s : State} {k : StackNo} {q : Cue}
    (stands : ((s.cue.recs[k]).position.bind fun n => s.cue.find k n) = some q) (again : Option Nat) :
    s.fire k again = if again.elim q.body.repeats (· - 1) = 0
      then (s.actAll k q.number 1 q.body.actions).lastFiring k q
      else (s.actAll k q.number 1 q.body.actions).modStack k fun r =>
        { r with state := .repeating (again.elim q.body.repeats (· - 1)) q.body.interval } := by
  unfold State.fire
  rw [stands]
  cases again <;> rfl

theorem State.fire_changes (s : State) (k : StackNo) (again : Option Nat) : s.MarkChanges (s.fire k again) := by
  cases stands : (s.cue.recs[k]).position.bind fun n => s.cue.find k n with
  | none =>
    rw [State.fire_of_none stands]
    exact .refl s
  | some q =>
    obtain ⟨n, position, found⟩ := Option.bind_eq_some_iff.1 stands
    have acted := State.actAll_acted k q.number q.body.actions s 1
    have run := State.actAll_changes k q.number q.body.actions s 1
    rw [State.fire_of_some stands]
    split
    · refine run.trans (State.lastFiring_changes _ k q ?_).mark
      rw [CueUnit.find, acted.store, (CueUnit.find_some found).2.2]
      exact Option.isSome_of_eq_some found
    · refine run.trans (MarkChange.repeats k _ _ ?_).run
      obtain ⟨c, m, same⟩ := acted.recs k
      rw [same, position]
      rfl

theorem State.decideArm_changes (s : State) (k : StackNo) (target : Frame) (grace : Nat)
    (on : (s.cue.recs[k]).state ≠ .ended) : s.MarkChanges (s.decideArm k target grace) := by
  unfold State.decideArm
  dsimp only
  split
  · exact s.fire_changes k none
  · split
    · exact (s.raiseTo_changes _ _).mark.trans (State.fire_changes _ k none)
    · split
      · refine ((State.modStack_changes ?_).trans (State.raiseTo_changes _ _ _)).mark
        refine ⟨rfl, fun h => ⟨fun e => (nomatch e), fun p => absurd (h.2 p) on⟩, .inl rfl,
          fun x' h => .inl ⟨x', h, rfl⟩, fun n i h => (nomatch h), fun _ f g h => (nomatch h)⟩
      · exact .refl s

theorem State.stackActs_changes (s : State) (k : StackNo) : s.MarkChanges (s.stackActs k) := by
  unfold State.stackActs
  cases state : (s.cue.recs[k]).state with
  | idle => exact .refl s
  | ended => exact .refl s
  | waiting n =>
    cases n with
    | zero => exact s.fire_changes k none
    | succ n =>
      refine (State.modStack_changes (.of_waiting (fun e => ?_) rfl rfl rfl rfl)).mark
      rw [state] at e
      cases e
  | repeating r i =>
    cases i with
    | zero => exact s.fire_changes k (some r)
    | succ i =>
      refine (State.modStack_changes (f := fun x => { x with state := .repeating r i }) ⟨rfl, fun h => ?_, .inl rfl,
        fun x' h => .inl ⟨x', h, rfl⟩, fun _ _ _ => ⟨r, i + 1, state⟩, fun _ f g h => (nomatch h)⟩).mark
      refine ⟨fun e => (nomatch e), fun p => ?_⟩
      rw [h.2 p] at state
      cases state
  | armed f g =>
    refine s.decideArm_changes k f g fun e => ?_
    rw [state] at e
    cases e

theorem State.applyDeferred_changes (s : State) : s.ShowChanges s.applyDeferred := by
  have writes : ∀ (l : List (Deferred × DeferCause)) (s : State),
      s.ShowChanges (l.foldl (fun s x => s.writeItem x.1.write) s) ∧
        (l.foldl (fun s x => s.writeItem x.1.write) s).tally = s.tally := by
    intro l
    induction l with
    | nil => exact fun s => ⟨.refl s, rfl⟩
    | cons x l ih =>
      intro s
      obtain ⟨run, tally⟩ := ih (s.writeItem x.1.write)
      exact ⟨(s.writeItem_changes _).trans run, tally.trans (s.writeItem_keeps _).2.2.2.2.2.2.1⟩
  obtain ⟨run, tally⟩ := writes (s.tally.queue.filterMap fun d => (s.releasable d).map fun c => (d, c)) s
  refine (run.trans ?_).trans (State.raiseTogether_changes _ _)
  exact (ShowChange.dequeue _ (by rw [tally]; exact List.filter_sublist)).run

theorem State.markTask_changes (s : State) (x : MarkTask) : s.MarkChanges (s.markTask x) := by
  cases x with
  | stack k => exact s.stackActs_changes k
  | apply => exact s.applyDeferred_changes.mark

theorem State.markTasks_changes (l : List MarkTask) (s : State) : s.MarkChanges (l.foldl State.markTask s) := by
  induction l generalizing s with
  | nil => exact .refl s
  | cons x l ih => exact (s.markTask_changes x).trans (ih _)

theorem State.markStart_granted (s : State) : s.markStart.granted = s.takeAllChained.grant := by
  simp only [State.markStart]

theorem State.markSteps_eq (s : State) (order : List Nat) : s.markSteps order =
    (arrange order (markTasks s.markStart.free)).foldl State.markTask s.markStart.granted := by
  simp only [State.markSteps]

/-- A MARK, but for its ISSUED, is a run of changes of a MARK (R97). -/
theorem State.markSteps_changes (s : State) (order : List Nat) : s.MarkChanges (s.markSteps order) := by
  rw [State.markSteps_eq, State.markStart_granted]
  exact (s.takeAllChained_changes.trans (State.grant_changes _)).mark.trans (State.markTasks_changes _ _)

end Sys2Proof.Machine
end

section
/-! PROOF. Every request as a run of small changes: what its block has read out of the payload and checked. -/

namespace Sys2Proof.Machine

open Relation

/-! ### Fields of a payload -/

theorem both_ok {α β : Type} {x : Except ReplyCode α} {y : Except ReplyCode β} {a : α} {b : β}
    (h : both x y = .ok (a, b)) : x = .ok a ∧ y = .ok b := by
  unfold both at h
  split at h <;> cases h
  exact ⟨rfl, rfl⟩

theorem everyOk_length {α : Type} (l : List (Except ReplyCode α)) {as : List α} (h : everyOk l = .ok as) :
    as.length = l.length := by
  induction l generalizing as with
  | nil => cases h; rfl
  | cons x l ih =>
    unfold everyOk at h
    split at h
    · rename_i a rest fields
      cases h
      simp [ih (both_ok fields).2]
    · cases h

theorem needFormat_ok {c : Bool} {u : Unit} (h : needFormat c = .ok u) : c = true := by
  cases c
  · cases h
  · rfl

theorem needRange_ok {c : Bool} {u : Unit} (h : needRange c = .ok u) : c = true := by
  cases c
  · cases h
  · rfl

theorem twelves_length (n : Nat) (l : List Byte) : (twelves n l).length = n := by
  induction n generalizing l with
  | zero => rfl
  | succ n ih => simp [twelves, ih]

/-- A cue record carries 1 to 16 actions (R89). -/
theorem cueBody_actions {l : List Byte} {body : CueBody} (h : cueBody l = .ok body) :
    1 ≤ body.actions.length ∧ body.actions.length ≤ 16 := by
  unfold cueBody at h
  split at h
  · dsimp only at h
    split at h
    · cases h
    · rename_i range
      split at h
      · rename_i fields
        cases h
        simp only [Bool.or_eq_true, decide_eq_true_eq, not_or, Nat.not_lt] at range
        have count := everyOk_length _ (both_ok fields).2
        simp only [List.length_map, twelves_length] at count
        dsimp only
        omega
      · cases h
  · cases h

/-! ### Answers -/

theorem withFields_changes {α : Type} {s : State} {x : Except ReplyCode α} {f : α → Answer}
    (h : ∀ a, x = .ok a → s.Changes (f a).state) : s.Changes (withFields s x f).state := by
  cases x with
  | ok a => exact h a rfl
  | error c => exact .refl s

theorem State.modPort_changes (s : State) (p : Port) (f : PortState → PortState)
    (keeps : ∀ x, (f x).tx = x.tx ∧ (f x).queue = x.queue ∧ (f x).overruns = x.overruns ∧
      (f x).noticeOwed = x.noticeOwed) : s.Changes (s.modPort p f) := by
  refine (State.Change.ports _ fun q => ?_).run
  have at_q := s.modPort_at p q f
  simp only [State.modPort_ports] at at_q
  rw [at_q]
  split
  · rename_i e; subst e; exact keeps _
  · exact ⟨rfl, rfl, rfl, rfl⟩

theorem State.modLine_changes (s : State) (l : LineNo) (f : Line → Line)
    (slots : (f s.lines[l]).slots = (s.lines[l]).slots ∨ highestSlot s.level.patch l ≤ (f s.lines[l]).slots) :
    s.Changes (s.modLine l f) := by
  refine (State.Change.lines _ fun m => ?_).run
  have at_m := s.modLine_at l m f
  simp only [State.modLine_lines] at at_m
  rw [at_m]
  split
  · rename_i e; subst e; exact slots
  · exact .inl rfl

/-! ### Reads -/

theorem takeReadAlerts_changes (p : Port) (payload : List Byte) (s : State) :
    s.Changes (takeReadAlerts p payload s).state := by
  have read (push : Option Bool) : s.Changes (s.readAlerts p push).state :=
    s.modPort_changes p _ fun _ => ⟨rfl, rfl, rfl, rfl⟩
  unfold takeReadAlerts
  split
  · exact read none
  · exact withFields_changes fun push _ => read (some push)
  · exact .refl s

theorem readKind_changes (s : State) (kind q : Byte) (i : Nat) : s.Changes (readKind s kind q i).state := by
  unfold readKind
  split
  · exact withFields_changes fun _ _ => .refl s
  · exact withFields_changes fun _ _ => .refl s
  · exact withFields_changes fun _ _ => .refl s
  · exact withFields_changes fun _ _ => by dsimp only; split <;> exact .refl s
  · exact withFields_changes fun _ _ => .refl s
  · refine withFields_changes fun _ _ => ?_
    dsimp only
    split
    · exact .refl s
    · split <;> exact .refl s
  · exact withFields_changes fun _ _ => s.modLine_changes _ _ (.inl rfl)
  · exact withFields_changes fun _ _ => .refl s
  · exact withFields_changes fun _ _ => by dsimp only; split <;> exact .refl s
  · have overrides (l : List Override) : s.Changes (readOverrides s l).state := by
      unfold readOverrides
      split <;> exact .refl s
    split
    · exact withFields_changes fun _ _ => overrides _
    · split
      · exact withFields_changes fun _ _ => overrides _
      · exact .refl s
  · exact .refl s

theorem takeRead_changes (payload : List Byte) (s : State) : s.Changes (takeRead payload s).state := by
  unfold takeRead
  split
  · exact readKind_changes s _ _ _
  · exact .refl s

/-! ### Banks and masters -/

theorem State.writeItems_changes (s : State) (p : Port) (ws : List ItemWrite) :
    s.Changes (s.writeItems p ws).state := by
  unfold State.writeItems
  split
  · exact .refl s
  · exact .refl s
  · exact (State.guardWrite_changes ‹_›).changes

theorem State.writeBank_changes (s : State) (p : Port) (role : BankRole) (ws : BankName → List ItemWrite) :
    s.Changes (s.writeBank p role ws).state := by
  unfold State.writeBank
  split
  · exact .refl s
  · exact s.writeItems_changes p _

theorem takeSetLevel_changes (p : Port) (payload : List Byte) (s : State) :
    s.Changes (takeSetLevel p payload s).state := by
  unfold takeSetLevel
  split
  · exact withFields_changes fun _ _ => s.writeBank_changes p _ _
  · exact .refl s

theorem takeSetLevelsShort_changes (p : Port) (payload : List Byte) (s : State) :
    s.Changes (takeSetLevelsShort p payload s).state := by
  unfold takeSetLevelsShort
  split
  · split
    · exact s.writeBank_changes p _ _
    · exact .refl s
  · exact .refl s

theorem takeSetWindow_changes (p : Port) (payload : List Byte) (s : State) :
    s.Changes (takeSetWindow p payload s).state := by
  unfold takeSetWindow
  split
  · dsimp only
    split
    · exact .refl s
    · exact withFields_changes fun _ _ => s.writeBank_changes p _ _
  · exact .refl s

theorem takeSetFill_changes (payload : List Byte) (s : State) : s.Changes (takeSetFill payload s).state := by
  unfold takeSetFill
  split
  · refine withFields_changes fun role _ => ?_
    split
    · exact .refl s
    · exact (State.Change.scene _).run
  · exact .refl s

theorem takeSetMaster_changes (p : Port) (payload : List Byte) (s : State) :
    s.Changes (takeSetMaster p payload s).state := by
  unfold takeSetMaster
  split
  · exact withFields_changes fun _ _ => s.writeItems_changes p _
  · exact .refl s

theorem takeTake_changes (payload : List Byte) (s : State) : s.Changes (takeTake payload s).state := by
  unfold takeTake
  split
  · exact (s.takeSet_changes 0).changes
  · exact withFields_changes fun n _ => (s.takeSet_changes n).changes
  · exact .refl s

theorem takeCopy_changes (payload : List Byte) (s : State) : s.Changes (takeCopy payload s).state := by
  unfold takeCopy
  split
  · split
    · exact .refl s
    · exact s.copyBanks_changes.changes
  · exact .refl s

/-! ### Cue Unit -/

theorem CueUnit.find_of_mem_numbers {c : CueUnit} {k : StackNo} {n : Nat} (h : n ∈ c.numbers k) :
    (c.find k n).isSome = true := by
  simp only [CueUnit.numbers, List.mem_map, List.mem_filter, decide_eq_true_eq] at h
  obtain ⟨q, ⟨mem, stack⟩, number⟩ := h
  rw [CueUnit.find, List.find?_isSome]
  exact ⟨q, mem, by simp [stack, number]⟩

theorem CueUnit.find_first {c : CueUnit} {k : StackNo} {n : Nat} (h : c.first k = some n) :
    (c.find k n).isSome = true := CueUnit.find_of_mem_numbers (List.mem_of_head? h)

theorem CueUnit.find_next {c : CueUnit} {k : StackNo} {m n : Nat} (h : c.next k m = some n) :
    (c.find k n).isSome = true := CueUnit.find_of_mem_numbers (List.mem_of_find?_eq_some h)

theorem takeStoreCue_changes (payload : List Byte) (s : State) : s.Changes (takeStoreCue payload s).state := by
  have level (k l : Byte) : s.Changes (s.setLevelOf k l).state := by
    refine withFields_changes fun (k, _) _ => ?_
    dsimp only
    split
    · exact (State.Change.stackLevel k _ ‹_›).run
    · exact .refl s
  unfold takeStoreCue
  split
  · split
    · unfold takeStoreHeader
      split
      · exact level _ _
      · exact .refl s
    · rename_i n1 n0 rest nonzero
      refine withFields_changes fun (body, (k, _)) fields => ?_
      obtain ⟨record, place⟩ := both_ok fields
      have range := needRange_ok (both_ok place).2
      simp only [decide_eq_true_eq] at range
      dsimp only
      unfold State.storeCue
      dsimp only
      cases old : s.cue.find k (be16 n1 n0) with
      | none =>
        dsimp only
        split
        · rename_i fits
          refine (State.Change.store ⟨k, be16 n1 n0, body⟩ ⟨by dsimp only; omega, range⟩ (cueBody_actions record) ?_ ?_).run
          · intro x h; rw [old] at h; cases h
          · intro _; simpa using fits
        · exact .refl s
      | some x =>
        dsimp only
        split
        · rename_i fits
          refine (State.Change.store ⟨k, be16 n1 n0, body⟩ ⟨by dsimp only; omega, range⟩ (cueBody_actions record) ?_ ?_).run
          · intro y h
            rw [old] at h
            cases h
            simpa using fits
          · intro h; rw [old] at h; cases h
        · exact .refl s
  · exact .refl s

theorem takeSetStack_changes (payload : List Byte) (s : State) : s.Changes (takeSetStack payload s).state := by
  unfold takeSetStack
  split
  · refine withFields_changes fun (k, _) _ => ?_
    dsimp only
    split
    · exact (State.Change.stackLevel k _ ‹_›).run
    · exact .refl s
  · exact .refl s

theorem takeDeleteCue_changes (payload : List Byte) (s : State) : s.Changes (takeDeleteCue payload s).state := by
  unfold takeDeleteCue
  split
  · refine withFields_changes fun (k, _) _ => ?_
    dsimp only
    split
    · exact .refl s
    · exact (State.Change.delete k _).run
  · exact .refl s

theorem takeGo_changes (payload : List Byte) (s : State) : s.Changes (takeGo payload s).state := by
  unfold takeGo
  split
  · exact withFields_changes fun k _ => (s.goEffect_changes k).changes
  · exact .refl s

/-- A show stack that stands on a cue may be ARMED. -/
theorem State.StackMove.of_armed {s : State} {k : StackNo} {r : StackRec} (f : Frame) (g : Nat) (show' : ¬ 5 ≤ r.level)
    (on : r.state ≠ .ended) : s.StackMove k r { r with state := .armed f g } where
  level := rfl
  ended h := ⟨fun e => (nomatch e), fun p => absurd (h.2 p) on⟩
  position := .inl rfl
  loop x' h := .inl ⟨x', h, rfl⟩
  repeating n i h := by cases h
  armed t := by simp [isTakeover, show'] at t

theorem takeArm_changes (payload : List Byte) (s : State) : s.Changes (takeArm payload s).state := by
  unfold takeArm
  split
  · exact .refl s
  · rename_i f g _
    refine withFields_changes fun k _ => ?_
    dsimp only
    split
    · exact .refl s
    · rename_i low
      have armed (on : (s.cue.recs[k]).state ≠ .ended) :
          s.Changes (s.modStack k fun r => { r with state := .armed f g }) :=
        (State.modStack_changes (.of_armed f g low on)).changes
      cases state : (s.cue.recs[k]).state with
      | ended => exact .refl s
      | waiting n => exact .refl s
      | repeating n i => exact .refl s
      | idle => exact armed (by rw [state]; simp)
      | armed f' g' => exact armed (by rw [state]; simp)

theorem State.halt_changes (s : State) (k : StackNo) : s.ShowChanges (s.modStack k StackRec.halt) :=
  State.modStack_changes (.of_halt rfl (.inl rfl) rfl rfl)

theorem takeHalt_changes (payload : List Byte) (s : State) : s.Changes (takeHalt payload s).state := by
  unfold takeHalt
  split
  · exact withFields_changes fun k _ => (s.halt_changes k).changes
  · exact .refl s

theorem takeResetStack_changes (payload : List Byte) (s : State) : s.Changes (takeResetStack payload s).state := by
  unfold takeResetStack
  split
  · refine withFields_changes fun k _ => (State.modStack_changes ?_).changes
    exact .of_halt rfl (.inr fun n h => CueUnit.find_first h) rfl rfl
  · exact .refl s

/-! ### Takeover Unit -/

theorem takeReleaseLevel_changes (payload : List Byte) (s : State) :
    s.Changes (takeReleaseLevel payload s).state := by
  unfold takeReleaseLevel
  split
  · split
    · exact .refl s
    · split
      · exact .refl s
      · exact (State.release_changes _ ‹_›).changes
  · exact .refl s

/-- A new level of the emergency input or the latch changes the Takeover Unit, and may raise SAFETY_CHANGE (R128). -/
theorem State.setSafety_eq (s : State) (e l : Bool) :
    s.setSafety e l = { s with takeover := s.takeover.withSafety e l } ∨
      s.setSafety e l = State.raiseSafety { s with takeover := s.takeover.withSafety e l } := by
  unfold State.setSafety TakeoverUnit.withSafety
  dsimp only
  cases s.takeover.inForce <;> cases e <;> cases l <;> simp [TakeoverUnit.inForce, State.setEntries]

theorem State.setSafety_changes (s : State) (e l : Bool) : s.Changes (s.setSafety e l) := by
  have change : s.Changes { s with takeover := s.takeover.withSafety e l } := (State.Change.safety e l).run
  rcases s.setSafety_eq e l with same | raised
  · rw [same]; exact change
  · rw [raised]; exact change.trans (State.raiseTo_changes _ _ _).changes

theorem takeSetSafety_changes (payload : List Byte) (s : State) : s.Changes (takeSetSafety payload s).state := by
  unfold takeSetSafety
  split
  · exact withFields_changes fun l _ => s.setSafety_changes _ l
  · exact .refl s

/-! ### Access Unit -/

/-- A new entry of one claim, where the claim may settle so. -/
theorem State.setClaim_changes {s : State} {id : ClaimId} {c : Option Claim}
    (settles : Claim.Settles s.access.claims[id] c) : s.Changes (s.setClaim id c) := by
  refine (State.Change.claims _ fun j => ?_).run
  by_cases e : id = j
  · subst e
    simpa using settles
  · have ne : (s.access.claims.set id c)[j] = s.access.claims[j] := by
      simp [Fin.val_inj, e]
    rw [ne]
    cases old : s.access.claims[j] with
    | none => exact .inl rfl
    | some d => exact .inr ⟨d, rfl, .inl rfl⟩

theorem withClaim_changes {s : State} {payload : List Byte} {f : ClaimId → Claim → Answer}
    (h : ∀ id c, s.access.claims[id] = some c → s.Changes (f id c).state) : s.Changes (withClaim s payload f).state := by
  unfold withClaim
  split
  · refine withFields_changes fun id _ => ?_
    split
    · exact .refl s
    · exact h id _ ‹_›
  · exact .refl s

theorem State.transfer_changes {s : State} {id : ClaimId} {c : Claim} {w : Contest} (cause : GrantCause)
    (used : s.access.claims[id] = some c) (contested : c.contest = some w) :
    s.Changes (s.transfer id c w cause) :=
  (State.setClaim_changes (.inr ⟨c, used, .inr (.inr ⟨w, contested, rfl⟩)⟩)).trans (State.raiseTo_changes _ _ _).changes

theorem takeUnclaim_changes (p : Port) (payload : List Byte) (s : State) :
    s.Changes (takeUnclaim p payload s).state := by
  refine withClaim_changes fun id c used => ?_
  split
  · exact .refl s
  · split
    · exact State.setClaim_changes (.inl rfl)
    · exact State.transfer_changes _ used ‹_›

theorem takeYield_changes (p : Port) (payload : List Byte) (s : State) : s.Changes (takeYield p payload s).state := by
  refine withClaim_changes fun id c used => ?_
  split
  · exact .refl s
  · split
    · exact .refl s
    · exact State.transfer_changes _ used ‹_›

theorem takeDropClaim_changes (payload : List Byte) (s : State) : s.Changes (takeDropClaim payload s).state := by
  refine withClaim_changes fun id c used => ?_
  have freed : s.Changes (s.setClaim id none) := State.setClaim_changes (.inl rfl)
  dsimp only
  split
  · exact freed
  · exact freed.trans (State.raiseTo_changes _ _ _).changes

theorem takeAsk_changes (p : Port) (payload : List Byte) (s : State) : s.Changes (takeAsk p payload s).state := by
  refine withClaim_changes fun id c used => ?_
  split
  · exact .refl s
  · rename_i other
    split
    · exact .refl s
    · split
      · exact .refl s
      · rename_i apart
        refine State.Changes.trans ?_ (State.raiseTo_changes _ _ _).changes
        exact (State.Change.contest id c ⟨p, _⟩ used other (by simpa using apart)).run

theorem takeClaim_changes (p : Port) (payload : List Byte) (s : State) : s.Changes (takeClaim p payload s).state := by
  unfold takeClaim
  split
  · refine withFields_changes fun (auto, r) _ => ?_
    dsimp only
    split
    · exact .refl s
    · rename_i apart
      split
      · exact .refl s
      · rename_i id free
        have free := List.find?_some free
        exact (State.Change.claim id p r auto (by simpa using free) (by simpa using apart)).run
  · exact .refl s

theorem takeSetRole_changes (payload : List Byte) (s : State) : s.Changes (takeSetRole payload s).state := by
  unfold takeSetRole
  split
  · refine withFields_changes fun (role, q) _ => ?_
    dsimp only
    split
    · exact .refl s
    · rename_i allowed
      refine (State.Change.access _ (by rfl) ?_).run
      rintro ⟨i, engineer⟩
      by_cases e : q = i
      · subst e
        cases role with
        | engineering => exact ⟨q, by simp⟩
        | operator =>
          simp only [engineer, and_self, decide_true, Bool.true_and, Bool.not_eq_true', Bool.not_eq_false,
            List.any_eq_true, decide_eq_true_eq] at allowed
          obtain ⟨j, _, other, eng⟩ := allowed
          exact ⟨j, by simpa [Vector.getElem_set, Fin.val_inj, other.symm] using eng⟩
      · exact ⟨i, by simpa [Fin.val_inj, e] using engineer⟩
  · exact .refl s

theorem takeSetPage_changes (p : Port) (payload : List Byte) (s : State) :
    s.Changes (takeSetPage p payload s).state := by
  unfold takeSetPage
  split
  · exact withFields_changes fun n _ => (State.Change.access _ (by rfl) (by exact id)).run
  · exact .refl s

theorem takeLock_changes (payload : List Byte) (s : State) : s.Changes (takeLock payload s).state := by
  unfold takeLock
  split
  · split
    · exact (State.Change.access _ (by rfl) (by exact id)).run
    · split
      · exact (State.Change.access _ (by rfl) (by exact id)).run
      · exact .refl s
  · exact .refl s

/-! ### Configuration -/

theorem takeSetShotMap_changes (payload : List Byte) (s : State) : s.Changes (takeSetShotMap payload s).state := by
  unfold takeSetShotMap
  split
  · exact withFields_changes fun l _ => (State.Change.tally _ (by exact .refl _)).run
  · exact .refl s

theorem takeSetGuard_changes (payload : List Byte) (s : State) : s.Changes (takeSetGuard payload s).state := by
  unfold takeSetGuard
  split
  · dsimp only
    split
    · exact .refl s
    · split
      · exact .refl s
      · split
        · exact (State.Change.tally _ (by exact .refl _)).run
        · split
          · exact (State.Change.tally _ (by exact .refl _)).run
          · exact .refl s
  · exact .refl s

theorem takeSetPatch_changes (payload : List Byte) (s : State) : s.Changes (takeSetPatch payload s).state := by
  unfold takeSetPatch
  split
  · split
    · exact .refl s
    · refine withFields_changes fun ((_, writes), n) _ => ?_
      dsimp only
      split
      · exact .refl s
      · rename_i fits
        exact (State.Change.patch n _ (by simpa using fits)).run
  · exact .refl s

theorem Line.configure_slots (l : Line) (enabled : Option Bool) (n b : Option Nat) :
    (l.configure enabled n b).slots = n.getD l.slots := by
  unfold Line.configure
  dsimp only
  split <;> rfl

theorem takeSetLine_changes (payload : List Byte) (s : State) : s.Changes (takeSetLine payload s).state := by
  unfold takeSetLine
  split
  · rename_i line pres en s1 s0 b1 b0
    refine withFields_changes fun ((_, enabled), l) _ => ?_
    dsimp only
    generalize (if pres.getLsbD 1 = true then some (clampNat 24 512 (be16 s1 s0)) else none) = slots
    cases slots with
    | none => exact s.modLine_changes l _ (.inl (Line.configure_slots _ _ _ _))
    | some n =>
      dsimp only
      split
      · exact .refl s
      · rename_i fits
        refine s.modLine_changes l _ (.inr ?_)
        rw [Line.configure_slots]
        simpa using fits
  · exact .refl s

theorem takeSetWallLink_changes (payload : List Byte) (s : State) : s.Changes (takeSetWallLink payload s).state := by
  unfold takeSetWallLink
  split
  · exact withFields_changes fun _ _ => (State.Change.wall _).run
  · exact .refl s

theorem takeSetSource_changes (payload : List Byte) (s : State) : s.Changes (takeSetSource payload s).state := by
  unfold takeSetSource
  split
  · exact withFields_changes fun _ _ => (State.Change.wall _).run
  · exact .refl s

theorem takeSetTransition_changes (payload : List Byte) (s : State) :
    s.Changes (takeSetTransition payload s).state := by
  unfold takeSetTransition
  split
  · exact withFields_changes fun _ _ => (State.Change.wall _).run
  · exact .refl s

theorem takeSetRoute_changes (payload : List Byte) (s : State) : s.Changes (takeSetRoute payload s).state := by
  unfold takeSetRoute
  split
  · split
    · split
      · exact (State.Change.ports _ (by exact fun _ => ⟨rfl, rfl, rfl, rfl⟩)).run
      · exact .refl s
    · exact .refl s
  · exact .refl s

theorem State.setTiming_changes (s : State) (pres : Byte) (rate : Option Rate) (grace timeout fade wall : Nat) :
    s.Changes (s.setTiming pres rate grace timeout fade wall) := by
  have clock : s.Changes { s with ref := { s.ref with rate := rate.getD s.ref.rate } } := (Change.ref _ (by exact id)).run
  refine ((clock.trans (Change.grace _).run).trans (Change.access _ ?_ ?_).run).trans (Change.fades _ _).run
  · rfl
  · exact id

theorem State.setPortRates_changes (p : Port) (rates : List (Port × LineRate)) (s : State) :
    s.Changes (rates.foldl (fun s x => s.setPortRate p x) s) := by
  induction rates generalizing s with
  | nil => exact .refl s
  | cons x l ih =>
    have one : s.Changes (s.setPortRate p x) := s.modPort_changes x.1 _ fun _ => ⟨rfl, rfl, rfl, rfl⟩
    exact one.trans (ih _)

theorem takeSetTiming_changes (p : Port) (payload : List Byte) (s : State) :
    s.Changes (takeSetTiming p payload s).state := by
  unfold takeSetTiming
  split
  · split
    · exact .refl s
    · exact withFields_changes fun _ _ => (s.setTiming_changes _ _ _ _ _ _).trans (State.setPortRates_changes p _ _)
  · exact .refl s

theorem takeSetFrame_changes (payload : List Byte) (s : State) : s.Changes (takeSetFrame payload s).state := by
  unfold takeSetFrame
  split
  · exact (State.Change.ref _ (by exact id)).run
  · exact .refl s

theorem takeClearClip_changes (payload : List Byte) (s : State) : s.Changes (takeClearClip payload s).state := by
  unfold takeClearClip
  split
  · exact (State.Change.level _ (by rfl)).run
  · exact .refl s

theorem takeSaveImage_changes (p : Port) (payload : List Byte) (s : State) :
    s.Changes (takeSaveImage p payload s).state := by
  unfold takeSaveImage
  split
  · split
    · exact .refl s
    · exact (State.Change.image _).run
  · exact .refl s

/-! ### SHOW_RESET -/

theorem StackRec.restart_settled (r : StackRec) (first : Option Nat) : (r.restart first).state.settled = true := by
  cases first <;> rfl

theorem State.resetTakeover_changes (s : State) (rest : ∀ k : StackNo, (s.cue.recs[k]).state.settled = true) :
    s.Changes s.resetTakeover := by
  have cleared := (State.Change.clear rest).run.trans (ShowChange.level s.level.masters 0).run.changes
  unfold State.resetTakeover
  dsimp only
  split
  · exact cleared.trans (State.raiseTo_changes _ _ _).changes
  · exact cleared

theorem State.endHandovers_changes (s : State) : s.Changes s.endHandovers := by
  refine State.Changes.trans (State.Change.claims _ fun id => ?_).run (State.raiseTogether_changes _ _).changes
  simp only [Fin.getElem_fin, mapTab_getElem]
  cases s.access.claims[id.val] with
  | none => exact .inl rfl
  | some c => exact .inr ⟨c, rfl, .inr (.inl rfl)⟩

theorem State.showReset_changes (s : State) : s.Changes s.showReset := by
  refine State.Changes.trans (State.Changes.trans (t := { s with
    scene := { s.scene with trans := .idle }
    cue := s.cue.restart
    tally := { s.tally with queue := [] } }) ?_ (State.resetTakeover_changes _ fun k => ?_)) (State.endHandovers_changes _)
  · exact ((State.Change.scene _).run.trans State.Change.restart.run).trans (State.Change.tally _ (List.nil_sublist _)).run
  · simp only [CueUnit.restart, Fin.getElem_fin, tab_getElem]
    exact StackRec.restart_settled _ _

theorem takeShowReset_changes (payload : List Byte) (s : State) : s.Changes (takeShowReset payload s).state := by
  unfold takeShowReset
  split
  · exact s.showReset_changes
  · exact .refl s

/-! ### Every request -/

theorem takeByCode_changes (p : Port) (code : Byte) (payload : List Byte) (s : State) :
    s.Changes (takeByCode p code payload s).state := by
  unfold takeByCode
  split
  · exact takeRead_changes _ _
  · exact takeReadAlerts_changes _ _ _
  · exact takeClearClip_changes _ _
  · exact takeSetLevel_changes _ _ _
  · exact takeSetLevelsShort_changes _ _ _
  · exact takeSetWindow_changes _ _ _
  · exact takeSetFill_changes _ _
  · exact takeSetMaster_changes _ _ _
  · exact takeTake_changes _ _
  · exact takeCopy_changes _ _
  · exact takeStoreCue_changes _ _
  · exact takeDeleteCue_changes _ _
  · exact takeSetStack_changes _ _
  · exact takeGo_changes _ _
  · exact takeArm_changes _ _
  · exact takeHalt_changes _ _
  · exact takeResetStack_changes _ _
  · exact takeReleaseLevel_changes _ _
  · exact takeClaim_changes _ _ _
  · exact takeUnclaim_changes _ _ _
  · exact takeAsk_changes _ _ _
  · exact takeYield_changes _ _ _
  · exact takeDropClaim_changes _ _
  · exact takeSetRole_changes _ _
  · exact takeSetPage_changes _ _ _
  · exact takeSetShotMap_changes _ _
  · exact takeSetGuard_changes _ _
  · exact takeSetPatch_changes _ _
  · exact takeSetLine_changes _ _
  · exact takeSetWallLink_changes _ _
  · exact takeSetSource_changes _ _
  · exact takeSetTransition_changes _ _
  · exact takeSetRoute_changes _ _
  · exact takeSetTiming_changes _ _ _
  · exact takeSetFrame_changes _ _
  · exact takeSetSafety_changes _ _
  · exact takeLock_changes _ _
  · exact takeSaveImage_changes _ _ _
  · exact takeShowReset_changes _ _
  · exact .refl s

/-- What a request's answer leaves is a run of changes (R177). -/
theorem State.answer_changes (s : State) (p : Port) (code : Byte) (payload : List Byte) :
    s.Changes (s.answer p code payload).state := by
  unfold State.answer
  split
  · split
    · rename_i a refused
      unfold State.accessCheck at refused
      split at refused
      · cases refused; exact .refl s
      · split at refused
        · cases refused; exact .refl s
        · obtain ⟨id, _, rfl⟩ := Option.map_eq_some_iff.1 refused
          exact .refl s
    · exact takeByCode_changes p code payload s
  · exact .refl s

end Sys2Proof.Machine
end

section
/-! PROOF. Every command as a run of changes and MARKs, or as one of the few things that a control port does: what an
invariant has to be checked against. -/

namespace Sys2Proof.Machine

open Relation

/-! ### The Reference Unit's accounting (R5, R7, R8) -/

/-- The Reference Unit after the close of its absorption window. -/
def RefUnit.closed (r : RefUnit) : RefUnit :=
  if r.windowOpen then
    match r.lock, r.origin with
    | .locked, .clock =>
      if 3 ≤ r.flywheel then { r with windowOpen := false, lock := .free, flywheel := 0, lead := 0 }
      else { r with windowOpen := false }
    | .free, .clock => { r with windowOpen := false, lead := 0 }
    | _, .pulse => { r with windowOpen := false }
  else r

/-- Whether the close of the window leaves LOCKED. -/
def RefUnit.loses (r : RefUnit) : Bool :=
  r.windowOpen && decide (r.lock = .locked ∧ r.origin = .clock ∧ 3 ≤ r.flywheel)

/-- The Reference Unit after a pulse or a flywheel frame has been counted. -/
def RefUnit.counted (r : RefUnit) : Origin → RefUnit
  | .clock =>
    match r.lock with
    | .locked => { r with flywheel := r.flywheel + 1 }
    | .free => r
  | .pulse =>
    match r.lock with
    | .locked => { r with flywheel := 0 }
    | .free =>
      if 2 ≤ r.lead + 1 then { r with lock := .locked, flywheel := 0, lead := 0 } else { r with lead := r.lead + 1 }

/-- Whether a counted pulse returns the lock. -/
def RefUnit.regains (r : RefUnit) (o : Origin) : Bool := decide (o = .pulse ∧ r.lock = .free ∧ 2 ≤ r.lead + 1)

/-- The Reference Unit at a frame event, before the frame is counted. -/
def RefUnit.opened (r : RefUnit) (now : Nat) (o : Origin) : RefUnit :=
  { r with
    counter := r.counter + 1
    origin := o
    windowOpen := true
    frameRate := r.rate
    markDue := some (now + r.rate.half)
    lastEvent := now
    expiry := now + r.rate.period }

/-- The Reference Unit after an absorbed pulse, but for the lock. -/
def RefUnit.absorbed (r : RefUnit) (e : Nat) : RefUnit :=
  { r with
    expiry := r.lastEvent + e + r.frameRate.period
    markDue := r.markDue.map fun _ => r.lastEvent + e + r.frameRate.half }

theorem State.closeWindow_eq (s : State) : s.closeWindow =
    if s.ref.loses then (s.modRef RefUnit.closed).raiseRouted (.refLost s.ref.counter)
    else s.modRef RefUnit.closed := by
  obtain ⟨⟨counter, lock, flywheel, lead, rate, frameRate, origin, windowOpen, due, last, expiry⟩, _⟩ := s
  cases windowOpen with
  | false => rfl
  | true =>
    cases lock with
    | free => cases origin <;> rfl
    | locked =>
      cases origin with
      | pulse => rfl
      | clock =>
        simp only [State.closeWindow, RefUnit.loses, RefUnit.closed, State.modRef, if_true]
        by_cases h : 3 ≤ flywheel <;> simp [h]

theorem State.countFrame_eq (s : State) (o : Origin) : s.countFrame o =
    if s.ref.regains o then (s.modRef fun r => r.counted o).raiseRouted (.refRegained s.ref.counter)
    else s.modRef fun r => r.counted o := by
  obtain ⟨⟨counter, lock, flywheel, lead, rate, frameRate, origin, windowOpen, due, last, expiry⟩, _⟩ := s
  cases o <;> cases lock
  · rfl
  · simp only [State.countFrame, State.countPulse, RefUnit.regains, RefUnit.counted, State.modRef, true_and]
    by_cases h : 2 ≤ lead + 1 <;> simp [h]
  · rfl
  · rfl

theorem State.absorb_eq (s : State) (e : Nat) : s.absorb e =
    match s.ref.origin with
    | .clock => (s.modRef fun r => { r.absorbed e with origin := .pulse }).countFrame .pulse
    | .pulse => s.modRef fun r => r.absorbed e := by
  unfold State.absorb
  cases s.ref.origin <;> rfl

theorem RefUnit.closed_legal {r : RefUnit} (law : r.legal) : r.closed.legal := by
  unfold RefUnit.closed
  split
  · split
    · split
      · simp [RefUnit.legal]
      · simp_all [RefUnit.legal]
        omega
    · simp_all [RefUnit.legal]
    · simp_all [RefUnit.legal]
  · exact law

theorem RefUnit.closed_windowOpen (r : RefUnit) : r.closed.windowOpen = false := by
  unfold RefUnit.closed
  split
  · split
    · split <;> rfl
    · rfl
    · rfl
  · simp_all

/-- A frame event whose window before it has closed leaves the counts in their use. -/
theorem RefUnit.opened_counted_legal {r : RefUnit} (law : r.legal) (shut : r.windowOpen = false) (now : Nat)
    (o : Origin) : ((r.opened now o).counted o).legal := by
  obtain ⟨locked, free⟩ := law
  cases lock : r.lock with
  | locked =>
    obtain ⟨lead, _, _, two⟩ := locked lock
    have two := two shut
    cases o <;> simp [RefUnit.counted, RefUnit.opened, RefUnit.legal, lock, lead]
    omega
  | free =>
    obtain ⟨fly, lead⟩ := free lock
    cases o with
    | clock => simp [RefUnit.counted, RefUnit.opened, RefUnit.legal, lock, fly, lead]
    | pulse =>
      simp only [RefUnit.counted, RefUnit.opened, lock]
      split <;> simp [RefUnit.legal, fly]
      omega

theorem RefUnit.absorbed_counted_legal {r : RefUnit} (law : r.legal) (e : Nat) :
    ({ r.absorbed e with origin := .pulse }.counted .pulse).legal := by
  obtain ⟨locked, free⟩ := law
  cases lock : r.lock with
  | locked =>
    obtain ⟨lead, _⟩ := locked lock
    simp [RefUnit.counted, RefUnit.absorbed, RefUnit.legal, lock, lead]
  | free =>
    obtain ⟨fly, lead⟩ := free lock
    simp only [RefUnit.counted, RefUnit.absorbed, lock]
    split <;> simp [RefUnit.legal, fly]
    omega

/-! ### Runs of changes and MARKs -/

/-- A change of a block, or the steps of a MARK. -/
inductive State.Beat (s : State) : State → Prop
  | change {t : State} (change : s.Change t) : Beat s t
  | mark (order : List Nat) : Beat s (s.markSteps order)

/-- A run of changes and MARKs. -/
def State.Runs : State → State → Prop := ReflTransGen State.Beat

theorem State.Runs.refl (s : State) : s.Runs s := ReflTransGen.refl
theorem State.Runs.trans {s t u : State} (a : s.Runs t) (b : t.Runs u) : s.Runs u := ReflTransGen.trans a b
theorem State.Changes.runs {s t : State} (h : s.Changes t) : s.Runs t :=
  ReflTransGen.mono (p := State.Beat) (fun _ _ => Beat.change) _ _ h
theorem State.Change.runs {s t : State} (h : s.Change t) : s.Runs t := h.run.runs
theorem State.ShowChanges.runs {s t : State} (h : s.ShowChanges t) : s.Runs t := h.changes.runs

theorem State.issueMark_runs (s : State) (order : List Nat) : s.Runs (s.issueMark order) :=
  State.Runs.trans (.single (.mark order)) (Change.ref (s := s.markSteps order) _ (by exact id)).runs

theorem State.owedMark_runs (s : State) (order : List Nat) : s.Runs (s.owedMark order) := by
  unfold State.owedMark
  split
  · exact s.issueMark_runs order
  · exact .refl s

theorem State.closeWindow_runs (s : State) : s.Runs s.closeWindow := by
  have closed : s.Runs (s.modRef RefUnit.closed) := (Change.ref _ RefUnit.closed_legal).runs
  rw [State.closeWindow_eq]
  split
  · exact closed.trans (State.raiseTo_changes _ _ _).runs
  · exact closed

theorem State.closeWindow_windowOpen (s : State) : s.closeWindow.ref.windowOpen = false := by
  rw [State.closeWindow_eq]
  split <;> exact s.ref.closed_windowOpen

theorem State.absorb_runs (s : State) (e : Nat) : s.Runs (s.absorb e) := by
  rw [State.absorb_eq]
  cases s.ref.origin with
  | pulse => exact (Change.ref _ (by exact id)).runs
  | clock =>
    have counted : s.Runs ((s.modRef fun r => { r.absorbed e with origin := .pulse }).modRef fun r =>
        r.counted .pulse) := (Change.ref _ fun law => RefUnit.absorbed_counted_legal law e).runs
    dsimp only
    rw [State.countFrame_eq]
    split
    · exact counted.trans (State.raiseTo_changes _ _ _).runs
    · exact counted

/-! ### What the blocks do at a frame event -/

theorem State.finishScan_runs (s : State) : s.Runs s.finishScan := by
  unfold State.finishScan
  split
  · exact .refl s
  · split <;> exact (Change.wall _).runs

theorem State.finishLevels_runs (s : State) (c : Computation) : s.Runs (s.finishLevels c) := by
  unfold State.finishLevels
  dsimp only
  split
  · exact (Change.level _ (by rfl)).runs
  · exact (Change.level { (s.level.clip c.patch (c.results (c.contexts s.level.contexts))).1 with
        contexts := c.contexts s.level.contexts, results := c.results (c.contexts s.level.contexts), comp := none }
      (by rfl)).runs.trans (State.raiseTo_changes _ _ _).runs

theorem Line.levelsReady_slots (l : Line) (frame : Frame) (image : List Byte) :
    (l.levelsReady frame image).1.slots = l.slots := by
  unfold Line.levelsReady
  split <;> rfl

theorem State.levelsReady_runs (s : State) : s.Runs s.levelsReady := by
  unfold State.levelsReady
  split
  · exact .refl s
  · rename_i c _
    dsimp only
    refine ((s.finishLevels_runs c).trans (Change.lines _ fun l => .inl ?_).runs).trans
      (State.raiseTogether_changes _ _).runs
    simp only [Fin.getElem_fin, tab_getElem]
    exact Line.levelsReady_slots _ _ _

theorem State.openFrame_runs (s : State) (ev : FrameEvent) : s.Runs (s.openFrame ev) := by
  have before : s.Runs (s.finishScan.levelsReady.owedMark ev.inputs.order).closeWindow :=
    ((s.finishScan_runs.trans (State.levelsReady_runs _)).trans (State.owedMark_runs _ _)).trans
      (State.closeWindow_runs _)
  have shut := State.closeWindow_windowOpen (s.finishScan.levelsReady.owedMark ev.inputs.order)
  have shape : s.openFrame ev = ((s.finishScan.levelsReady.owedMark ev.inputs.order).closeWindow.modRef fun r =>
    r.opened (s.eventInstant ev.cause) (originOf ev.cause)).countFrame (originOf ev.cause) := rfl
  rw [shape]
  generalize (s.finishScan.levelsReady.owedMark ev.inputs.order).closeWindow = u at before shut
  have counted : s.Runs ((u.modRef fun r => r.opened (s.eventInstant ev.cause) (originOf ev.cause)).modRef fun r =>
      r.counted (originOf ev.cause)) :=
    before.trans (Change.ref _ fun law => RefUnit.opened_counted_legal law shut _ _).runs
  rw [State.countFrame_eq]
  split
  · exact counted.trans (State.raiseTo_changes _ _ _).runs
  · exact counted

theorem State.stepSources_runs (s : State) : s.Runs s.stepSources := by
  unfold State.stepSources
  exact (((Change.wall _).runs.trans (State.raiseTogether_changes _ _).runs).trans
    (State.raiseTogether_changes _ _).runs).trans (State.raiseTogether_changes _ _).runs

/-- A claim's step at a frame event keeps it, ends its contest or hands it over (R151, R152). -/
theorem State.claimStep_settles (s : State) (view : FrameView) (before : Option Claim) :
    Claim.Settles before (before.map fun c : Claim => c.after (s.claimStep view c)) := by
  cases before with
  | none => exact .inl rfl
  | some c =>
    refine .inr ⟨c, rfl, ?_⟩
    cases h : s.claimStep view c with
    | stays => exact .inl (by simp [h, Claim.after])
    | expires w => exact .inr (.inl (by simp [h, Claim.after]))
    | moves w =>
      refine .inr (.inr ⟨w, ?_, by simp [h, Claim.after]⟩)
      unfold State.claimStep at h
      split at h
      · cases h
      · split at h
        · cases h; assumption
        · split at h <;> cases h

theorem State.stepClaims_runs (s : State) (view : FrameView) : s.Runs (s.stepClaims view) := by
  refine ((Change.claims _ fun id => ?_).runs.trans (State.raiseTogether_changes _ _).runs).trans
    (State.raiseTogether_changes _ _).runs
  simp only [Fin.getElem_fin, tab_getElem]
  exact s.claimStep_settles view _

/-- The Scene Memory's step at a frame event (R26, R27). -/
def State.sceneStepped (s : State) : State := { s with scene := (s.scene.frameStep s.wall.sets).1 }

/-- The sample of the tally lines at a frame event (R157). -/
def State.tallySampled (s : State) (tally : BitVec 16) : State := { s with tally := s.tally.sample tally }

/-- What the blocks do at a frame event, one after the other. -/
theorem State.frameBlocks_eq (s : State) (tally : BitVec 16) : s.frameBlocks tally =
    (((s.sceneStepped.stepSources.tallySampled tally).stepClaims s.nextView).startScan s.nextView).startComputation := by
  simp only [State.frameBlocks, State.sceneStepped, State.tallySampled, State.nextView]

theorem State.frameBlocks_runs (s : State) (tally : BitVec 16) : s.Runs (s.frameBlocks tally) := by
  rw [State.frameBlocks_eq]
  have scene : s.Runs s.sceneStepped := (Change.scene _).runs
  have sample (u : State) : u.Runs (u.tallySampled tally) := (Change.tally _ (by exact .refl _)).runs
  have scan (u : State) : u.Runs (u.startScan s.nextView) := (Change.wall _).runs
  have computation (u : State) : u.Runs u.startComputation := (Change.level _ (by rfl)).runs
  exact ((((scene.trans (State.stepSources_runs _)).trans (sample _)).trans (State.stepClaims_runs _ _)).trans
    (scan _)).trans (computation _)

theorem State.frame_runs (s : State) (ev : FrameEvent) : s.Runs (s.frame ev) :=
  (s.openFrame_runs ev).trans (State.frameBlocks_runs _ _)

/-! ### Commands -/

/-- What a command leaves: a run of changes and MARKs, after which the owed notices start; a run that owes no new
notice; a run and a request received; the end of a sent frame; a break on a line; or a hard reset. -/
inductive State.Effect (s : State) : State → Prop
  | runs {u : State} (run : s.Runs u) : Effect s u.startNotices
  | still {u : State} (run : s.Runs u)
      (notices : ∀ q : Port, (u.ports.port[q]).noticeOwed = (s.ports.port[q]).noticeOwed) : Effect s u
  | receive {u : State} (run : s.Runs u) (p : Port) (q : Queued) : Effect s (u.receive p q).startNotices
  | sent (p : Port) : Effect s (s.transmitEnd p).startNotices
  | lineBreak (p : Port) :
      Effect s (s.modPort p fun x => { (x.bump .breaks) with receiver := .hunt, queue := [], overruns := [] })
  | reset (emergency : Bool) : Effect s (s.load.setSafety emergency false).startNotices

theorem State.Effect.refl (s : State) : s.Effect s := .still (.refl s) fun _ => rfl

theorem State.frameWhen_runs (s : State) (ev : FrameEvent) (happens : State → Bool) :
    s.Runs (s.frameWhen ev happens) := by
  unfold State.frameWhen
  split
  · exact s.frame_runs ev
  · exact .refl s

theorem State.markWhen_runs (s : State) (order : List Nat) (happens : Bool) : s.Runs (s.markWhen order happens) := by
  unfold State.markWhen
  split
  · exact s.issueMark_runs order
  · exact .refl s

theorem State.failSave_runs (s : State) (cause : ImageFailCause) : s.Runs (s.failSave cause) := by
  unfold State.failSave
  split
  · exact .refl s
  · exact (Change.image _).runs.trans (State.raiseTo_changes _ _ _).runs

theorem PortState.bump_keeps (x : PortState) (k : ErrorKind) : (x.bump k).tx = x.tx ∧ (x.bump k).queue = x.queue ∧
    (x.bump k).overruns = x.overruns ∧ (x.bump k).noticeOwed = x.noticeOwed := ⟨rfl, rfl, rfl, rfl⟩

theorem State.bump_runs (s : State) (p : Port) (k : ErrorKind) : s.Runs (s.modPort p fun x => x.bump k) :=
  (s.modPort_changes p _ fun x => x.bump_keeps k).runs

theorem State.setReceiver_runs (s : State) (p : Port) (r : Receiver) : s.Runs (s.setReceiver p r) :=
  (s.modPort_changes p _ (by exact fun _ => ⟨rfl, rfl, rfl, rfl⟩)).runs

theorem State.checkFrame_effect {s u : State} (run : s.Runs u) (p : Port) (body : List Byte) (crc : BitVec 16) :
    s.Effect (u.checkFrame p body crc).startNotices := by
  unfold State.checkFrame
  split
  · split
    · exact .runs (run.trans (u.bump_runs p _))
    · split
      · exact .receive run p _
      · exact .runs (run.trans (u.bump_runs p _))
  · exact .runs (run.trans (u.bump_runs p _))

theorem State.byteIn_effect (s : State) (p : Port) (b : Byte) : s.Effect (s.byteIn p b).startNotices := by
  unfold State.byteIn
  dsimp only
  have run := s.setReceiver_runs p ((s.ports.port[p]).receiver.byte b).1
  cases ((s.ports.port[p]).receiver.byte b).2 with
  | quiet => exact .runs run
  | stray => exact .runs (run.trans (State.bump_runs _ p _))
  | badLength => exact .runs (run.trans (State.bump_runs _ p _))
  | frame body crc => exact State.checkFrame_effect run p body crc

theorem State.request_effect (s : State) (code : Byte) (r : Sys2Proof.Request) :
    s.Effect (s.request code r).startNotices := by
  unfold State.request
  split
  · exact .runs (s.bump_runs _ _)
  · exact .receive (.refl s) _ _

theorem State.lineError_effect (s : State) (p : Port) (k : ErrorKind) :
    s.Effect (s.modPort p fun x => { x.bump k with receiver := .hunt }) := by
  refine .still (s.modPort_changes p _ (by exact fun _ => ⟨rfl, rfl, rfl, rfl⟩)).runs fun q => ?_
  rw [State.modPort_at]
  split
  · rename_i e; subst e; rfl
  · rfl

/-- Every command answers a next state, and what it leaves is one of its effects. -/
theorem exec_effect (c : Instr) (s : State) : ∃ t, exec c s = .next t ∧ s.Effect t := by
  have request (code : Byte) (r : Sys2Proof.Request) : ∃ t, (s.request code r).done = .next t ∧ s.Effect t :=
    ⟨_, rfl, s.request_effect code r⟩
  have frame (ev : FrameEvent) (happens : State → Bool) :
      ∃ t, (s.frameWhen ev happens).done = .next t ∧ s.Effect t := ⟨_, rfl, .runs (s.frameWhen_runs ev happens)⟩
  have mark (order : List Nat) (happens : Bool) :
      ∃ t, (s.markWhen order happens).done = .next t ∧ s.Effect t := ⟨_, rfl, .runs (s.markWhen_runs order happens)⟩
  cases c with
  | hardReset emergency => exact ⟨_, rfl, .reset emergency⟩
  | referencePulse elapsed inputs =>
    change ∃ t, execReferencePulse elapsed inputs s = .next t ∧ s.Effect t
    unfold execReferencePulse
    split
    · exact ⟨_, rfl, .runs (s.frame_runs _)⟩
    · exact ⟨_, rfl, .runs (s.absorb_runs _)⟩
  | localClockExpiry inputs => exact ⟨_, rfl, .runs (s.frame_runs _)⟩
  | absorptionWindowClose => exact ⟨_, rfl, .runs s.closeWindow_runs⟩
  | mark order => exact ⟨_, rfl, .runs (s.owedMark_runs order)⟩
  | takeSwap ev => exact frame ev _
  | transitionEnd ev => exact frame ev _
  | sourceHoldExpiry ev src => exact frame ev _
  | sourceFrameComplete src f =>
    change ∃ t, execSourceFrameComplete src f s = .next t ∧ s.Effect t
    unfold execSourceFrameComplete
    split
    · exact ⟨_, rfl, .still (State.Change.wall _).runs fun _ => rfl⟩
    · exact ⟨_, rfl, .refl s⟩
  | sourceFrameDiscard src => exact ⟨_, rfl, .refl s⟩
  | scanEnd =>
    refine ⟨_, rfl, .still s.finishScan_runs fun q => ?_⟩
    unfold State.finishScan
    split
    · rfl
    · split <;> rfl
  | levelsReady => exact ⟨_, rfl, .runs s.levelsReady_runs⟩
  | packetEnd line =>
    refine ⟨_, rfl, .still (s.modLine_changes line _ (.inl ?_)).runs fun _ => rfl⟩
    unfold Line.packetEnd
    split
    · rfl
    · dsimp only
      split <;> rfl
  | autoYield ev id => exact frame ev _
  | handoverExpiry ev id => exact frame ev _
  | chainedGo order stack => exact mark order _
  | waitExpiry order stack => exact mark order _
  | repeatIntervalExpiry order stack => exact mark order _
  | armTarget order stack => exact mark order _
  | takeoverGrant order => exact mark order _
  | deferApply order => exact mark order _
  | emergencyInputChange asserted => exact ⟨_, rfl, .runs (s.setSafety_changes _ _).runs⟩
  | frameReceived port body crc => exact ⟨_, rfl, State.checkFrame_effect (s.setReceiver_runs port _) port body crc⟩
  | gap port =>
    change ∃ t, execGap port s = .next t ∧ s.Effect t
    unfold execGap
    split
    · exact ⟨_, rfl, s.lineError_effect port _⟩
    · exact ⟨_, rfl, .refl s⟩
  | framing port => exact ⟨_, rfl, s.lineError_effect port _⟩
  | lineBreak port => exact ⟨_, rfl, .lineBreak port⟩
  | transmitEnd port => exact ⟨_, rfl, .sent port⟩
  | alertNotice port =>
    change ∃ t, execAlertNotice port s = .next t ∧ s.Effect t
    unfold execAlertNotice
    split
    · exact ⟨_, rfl, .sent port⟩
    · exact ⟨_, rfl, .refl s⟩
  | overrunReply port =>
    change ∃ t, execOverrunReply port s = .next t ∧ s.Effect t
    unfold execOverrunReply
    split
    · exact ⟨_, rfl, .sent port⟩
    · exact ⟨_, rfl, .refl s⟩
  | portRateChange port =>
    change ∃ t, execPortRateChange port s = .next t ∧ s.Effect t
    unfold execPortRateChange
    split
    · exact ⟨_, rfl, .sent _⟩
    · exact ⟨_, rfl, .refl s⟩
  | saveCompletion =>
    change ∃ t, execSaveCompletion s = .next t ∧ s.Effect t
    unfold execSaveCompletion
    split
    · exact ⟨_, rfl, .refl s⟩
    · exact ⟨_, rfl, .runs ((State.Change.image _).runs.trans (State.raiseTo_changes _ _ _).runs)⟩
  | saveVerifyFailure => exact ⟨_, rfl, .runs (s.failSave_runs _)⟩
  | saveTimeout => exact ⟨_, rfl, .runs (s.failSave_runs _)⟩
  | byteCompleted port byte => exact ⟨_, rfl, s.byteIn_effect port byte⟩
  | unknownRequest code r => exact request code r
  | readStatus r | readChannel r | readWindow r | readClaim r | readStack r | readCue r | readLine r | readSource r
  | readQueue r | readOverride r => exact request 0x01 _
  | readAlerts r => exact request 0x02 r
  | clearClip r => exact request 0x03 r
  | setLevel r => exact request 0x04 r
  | setLevelsShort r => exact request 0x05 r
  | setWindow r => exact request 0x06 r
  | setFill r => exact request 0x07 r
  | setMaster r => exact request 0x08 r
  | take r => exact request 0x09 r
  | copy r => exact request 0x0A r
  | storeCue r => exact request 0x0B r
  | storeCueHeader r => exact request 0x0B _
  | deleteCue r => exact request 0x0C r
  | setStack r => exact request 0x0D r
  | go r => exact request 0x0E r
  | arm r => exact request 0x0F r
  | halt r => exact request 0x10 r
  | resetStack r => exact request 0x11 r
  | releaseLevel r => exact request 0x12 r
  | claim r => exact request 0x13 r
  | unclaim r => exact request 0x14 r
  | ask r => exact request 0x15 r
  | yieldClaim r => exact request 0x16 r
  | dropClaim r => exact request 0x17 r
  | setRole r => exact request 0x18 r
  | setPage r => exact request 0x19 r
  | setShotMap r => exact request 0x1A r
  | setGuard r => exact request 0x1B r
  | setPatch r => exact request 0x1C r
  | setLine r => exact request 0x1D r
  | setWallLink r => exact request 0x1E r
  | setSource r => exact request 0x1F r
  | setTransition r => exact request 0x20 r
  | setRoute r => exact request 0x21 r
  | setTiming r => exact request 0x22 r
  | setFrame r => exact request 0x23 r
  | setSafety r => exact request 0x24 r
  | lock r => exact request 0x25 r
  | saveImage r => exact request 0x26 r
  | showReset r => exact request 0x27 r

end Sys2Proof.Machine
end

section
/-! PROOF. Invariants, packaged once: what the small changes, the ports and a hard reset keep, every step keeps. -/

namespace Sys2Proof.Machine

open Relation

/-- A property that every small change and every MARK keeps is kept by a run of them. -/
theorem State.Runs.keeps {P : State → Prop} (change : ∀ s t : State, s.Change t → P s → P t)
    (mark : ∀ (s : State) (order : List Nat), P s → P (s.markSteps order)) {s t : State} (run : s.Runs t) (h : P s) :
    P t := by
  induction run with
  | refl => exact h
  | tail _ beat ih =>
    cases beat with
    | change c => exact change _ _ c ih
    | mark order => exact mark _ order ih

/-- A property that every change of a MARK keeps is kept by a run of them. -/
theorem State.MarkChanges.keeps {P : State → Prop} (change : ∀ s t : State, s.MarkChange t → P s → P t) {s t : State}
    (run : s.MarkChanges t) (h : P s) : P t := by
  induction run with
  | refl => exact h
  | tail _ c ih => exact change _ _ c ih

/-- A property that every change of a MARK keeps is kept by the steps of a MARK. -/
theorem State.markSteps_keeps {P : State → Prop} (change : ∀ s t : State, s.MarkChange t → P s → P t) (s : State)
    (order : List Nat) (h : P s) : P (s.markSteps order) :=
  (s.markSteps_changes order).keeps change h

/-- What keeps a property of the state, whatever the control ports hold and whatever the queue of commands. -/
structure Invariant (P : State → Prop) : Prop where
  change : ∀ s t : State, s.Change t → P s → P t
  mark : ∀ (s : State) (order : List Nat), P s → P (s.markSteps order)
  ports : ∀ (s : State) (c : PortController), P s → P { s with ports := c }
  load : ∀ s : State, P s → P s.load

section
variable {P : State → Prop} (inv : Invariant P) {s t : State}
include inv

theorem Invariant.runs (run : s.Runs t) (h : P s) : P t := run.keeps inv.change inv.mark h

theorem Invariant.modPort (p : Port) (f : PortState → PortState) (h : P s) : P (s.modPort p f) := inv.ports _ _ h

theorem Invariant.startNotices (h : P s) : P s.startNotices := inv.ports _ _ h

theorem Invariant.takeRequest (p : Port) (q : Queued) (h : P s) : P (s.takeRequest p q) :=
  inv.modPort p _ (inv.runs (s.answer_changes p q.code q.payload).runs h)

theorem Invariant.arbitrate (p : Port) (h : P s) : P (s.arbitrate p) := by
  unfold State.arbitrate
  dsimp only
  split
  · exact h
  · exact inv.modPort p _ h
  · exact inv.modPort p _ h
  · exact inv.takeRequest p _ (inv.modPort p _ h)
  · exact h

theorem Invariant.transmitEnd (p : Port) (h : P s) : P (s.transmitEnd p) := by
  unfold State.transmitEnd
  split
  · exact h
  · exact inv.arbitrate p (inv.ports _ _ (inv.modPort p _ h))

theorem Invariant.effect (effect : s.Effect t) (h : P s) : P t := by
  cases effect with
  | runs run => exact inv.startNotices (inv.runs run h)
  | still run _ => exact inv.runs run h
  | receive run p q => exact inv.startNotices (inv.arbitrate p (inv.modPort p _ (inv.runs run h)))
  | sent p => exact inv.startNotices (inv.transmitEnd p h)
  | lineBreak p => exact inv.modPort p _ h
  | reset e => exact inv.startNotices (inv.runs (State.setSafety_changes _ e false).runs (inv.load s h))

/-- Every step keeps an invariant that does not look at the queue of commands. -/
theorem Invariant.step (queue : ∀ (s : State) (l : List Instr), P s → P { s with pending := l })
    (stepped : Machine.step s = .next t) (h : P s) : P t := by
  unfold Machine.step at stepped
  split at stepped
  · cases stepped; exact h
  · rename_i c rest _
    obtain ⟨u, answers, effect⟩ := exec_effect c { s with pending := rest }
    rw [answers] at stepped
    cases stepped
    exact inv.effect effect (queue s rest h)

end

/-! ### The queue of commands -/

/-- Settles O1: the definition of a step on a queue with a command in front. -/
theorem stepRunsFrontCommand : Obligations.StepRunsFrontCommand := by
  intro c rest s front
  rw [step, front]

theorem State.ShowChange.pending {s t : State} (c : s.ShowChange t) : t.pending = s.pending := by
  cases c <;> rfl

theorem State.MarkChange.pending {s t : State} (c : s.MarkChange t) : t.pending = s.pending := by
  cases c with
  | running c => exact c.pending
  | override => rfl
  | repeats => rfl

theorem State.afterDelete_pending (s : State) (k : StackNo) (n : Nat) : (s.afterDelete k n).pending = s.pending := by
  unfold State.afterDelete
  dsimp only
  split
  · rfl
  · split <;> rfl

theorem State.Change.pending {s t : State} (c : s.Change t) : t.pending = s.pending := by
  cases c with
  | running c => exact c.pending
  | delete k n => exact State.afterDelete_pending _ k n
  | _ => rfl

/-- No command touches the queue of commands. -/
theorem pending_invariant (l : List Instr) : Invariant fun s => s.pending = l where
  change _ _ c h := c.pending.trans h
  mark s order h := State.markSteps_keeps (P := fun s => s.pending = l) (fun _ _ c h => c.pending.trans h) s order h
  ports _ _ h := h
  load s h := by
    unfold State.load
    split <;> exact h

/-- Settles O2: every command answers one of its effects, none of which touches the queue. -/
theorem everyCommandCompletes : Obligations.EveryCommandCompletes := by
  intro c s
  obtain ⟨t, answers, effect⟩ := exec_effect c s
  exact ⟨t, answers, (pending_invariant s.pending).effect effect rfl⟩

/-! ### The lock state and its counts (R1, R7, R8) -/

theorem State.ShowChange.ref {s t : State} (c : s.ShowChange t) : t.ref = s.ref := by
  cases c <;> rfl

theorem State.MarkChange.ref {s t : State} (c : s.MarkChange t) : t.ref = s.ref := by
  cases c with
  | running c => exact c.ref
  | override => rfl
  | repeats => rfl

theorem State.afterDelete_ref (s : State) (k : StackNo) (n : Nat) : (s.afterDelete k n).ref = s.ref := by
  unfold State.afterDelete
  dsimp only
  split
  · rfl
  · split <;> rfl

theorem State.Change.ref_legal {s t : State} (c : s.Change t) (h : s.ref.legal) : t.ref.legal := by
  cases c with
  | running c => rw [c.ref]; exact h
  | ref r law => exact law h
  | delete k n => rw [State.afterDelete_ref]; exact h
  | _ => exact h

theorem lockCounts_invariant : Invariant fun s => s.ref.legal where
  change _ _ c h := c.ref_legal h
  mark s order h := State.markSteps_keeps (P := fun s => s.ref.legal) (fun _ _ c h => by rw [c.ref]; exact h) s order h
  ports _ _ h := h
  load s _ := by
    unfold State.load
    split <;> exact ⟨fun h => (nomatch h), fun _ => ⟨rfl, by simp [State.boot]⟩⟩

/-- Settles O16: the accounting keeps the counts in their use wherever it moves them. -/
theorem lockCountsStayLegal : Obligations.LockCountsStayLegal :=
  fun _ _ h stepped => lockCounts_invariant.step (fun _ _ h => h) stepped h

end Sys2Proof.Machine
end

section
/-! PROOF. What a hard reset loads, and the invariants of the patch, the tables and the access unit. -/

namespace Sys2Proof.Machine

open Relation

theorem getElem_set_fin {α : Type} {n : Nat} (v : Vector α n) (i j : Fin n) (x : α) :
    (v.set i x)[j] = if i = j then x else v[j] := by
  simp [Vector.getElem_set, Fin.ext_iff]

/-! ### The body that a hard reset puts in force (R201, R202) -/

/-- What every loaded body meets: its laws, and the ranges of its cue records. -/
def ImageBody.Loaded (b : ImageBody) : Prop :=
  b.lawful = true ∧
    ∀ q ∈ b.store, 1 ≤ q.number ∧ q.number ≤ 9999 ∧ 1 ≤ q.body.actions.length ∧ q.body.actions.length ≤ 16

theorem toOption_some {α : Type} {x : Except ReplyCode α} {a : α} (h : x.toOption = some a) : x = .ok a := by
  cases x with
  | error c => cases h
  | ok b => cases h; rfl

theorem readCue_ranges {l rest : List Byte} {q : Cue} (h : readCue l = some (q, rest)) :
    1 ≤ q.number ∧ q.number ≤ 9999 ∧ 1 ≤ q.body.actions.length ∧ q.body.actions.length ≤ 16 := by
  unfold readCue at h
  split at h
  · split at h
    · split at h
      · rename_i number
        obtain ⟨⟨body, left⟩, read, same⟩ := Option.map_eq_some_iff.1 h
        cases same
        unfold chunk at read
        split at read
        · obtain ⟨body', parsed, same⟩ := Option.map_eq_some_iff.1 read
          cases same
          exact ⟨number.1, number.2, cueBody_actions (toOption_some parsed)⟩
        · cases read
      · cases h
    · cases h
  · cases h

theorem many_all {α : Type} {r : Reader α} {P : α → Prop} (each : ∀ l a rest, r l = some (a, rest) → P a) (n : Nat)
    {l rest : List Byte} {as : List α} (h : many n r l = some (as, rest)) : ∀ a ∈ as, P a := by
  induction n generalizing l as with
  | zero => cases h; simp
  | succ n ih =>
    rw [many] at h
    split at h
    · rename_i a l' one
      obtain ⟨⟨as', rest'⟩, more, same⟩ := Option.map_eq_some_iff.1 h
      cases same
      rintro x (_ | ⟨_, there⟩)
      · exact each _ _ _ one
      · exact ih more x there
    · cases h

theorem readBody_store {l rest : List Byte} {b : ImageBody} (h : readBody l = some (b, rest)) :
    ∀ q ∈ b.store, 1 ≤ q.number ∧ q.number ≤ 9999 ∧ 1 ≤ q.body.actions.length ∧ q.body.actions.length ≤ 16 := by
  unfold readBody at h
  obtain ⟨x, -, h⟩ := Option.bind_eq_some_iff.1 h
  obtain ⟨x, -, h⟩ := Option.bind_eq_some_iff.1 h
  obtain ⟨x, -, h⟩ := Option.bind_eq_some_iff.1 h
  obtain ⟨x, -, h⟩ := Option.bind_eq_some_iff.1 h
  obtain ⟨x, -, h⟩ := Option.bind_eq_some_iff.1 h
  obtain ⟨x, -, h⟩ := Option.bind_eq_some_iff.1 h
  obtain ⟨x, -, h⟩ := Option.bind_eq_some_iff.1 h
  obtain ⟨x, -, h⟩ := Option.bind_eq_some_iff.1 h
  obtain ⟨x, -, h⟩ := Option.bind_eq_some_iff.1 h
  obtain ⟨x, -, h⟩ := Option.bind_eq_some_iff.1 h
  obtain ⟨x, -, h⟩ := Option.bind_eq_some_iff.1 h
  obtain ⟨x, -, h⟩ := Option.bind_eq_some_iff.1 h
  obtain ⟨x, -, h⟩ := Option.bind_eq_some_iff.1 h
  obtain ⟨x, -, h⟩ := Option.bind_eq_some_iff.1 h
  obtain ⟨x, -, h⟩ := Option.bind_eq_some_iff.1 h
  obtain ⟨⟨store, l'⟩, stored, h⟩ := Option.bind_eq_some_iff.1 h
  obtain ⟨x, -, h⟩ := Option.bind_eq_some_iff.1 h
  cases h
  exact many_all (fun _ _ _ => readCue_ranges) _ stored

theorem goodBody_loaded {l : List Byte} {b : ImageBody} (h : goodBody l = some b) : b.Loaded := by
  unfold goodBody at h
  split at h
  · rename_i b' read
    split at h
    · rename_i good
      cases h
      exact ⟨(Bool.and_eq_true_iff.1 good).2, readBody_store read⟩
    · cases h
  · cases h

theorem loadImage_loaded {stored : Option (List Byte)} {b : ImageBody} (h : loadImage stored = some b) : b.Loaded := by
  unfold loadImage at h
  split at h
  · dsimp only at h
    split at h
    · exact goodBody_loaded h
    · cases h
  · cases h

theorem patchesApart_blank : patchesApart (Vector.replicate 1024 PatchRec.blank) = true := by
  unfold patchesApart
  rw [Vector.toList_replicate, List.filter_replicate]
  rfl

theorem slotsCovered_blank (lines : Vector (Bool × Nat × Nat) 8) :
    slotsCovered (Vector.replicate 1024 PatchRec.blank) lines = true := by
  unfold slotsCovered
  rw [Vector.toList_replicate, List.all_replicate]
  rfl

theorem ImageBody.defaults_loaded : ImageBody.defaults.Loaded := by
  refine ⟨?_, fun q there => nomatch there⟩
  unfold ImageBody.lawful
  rw [show defaults.patch = Vector.replicate 1024 PatchRec.blank from rfl, patchesApart_blank, slotsCovered_blank]
  rfl

/-- A hard reset loads a body that meets its laws: the stored one, or the defaults. -/
theorem State.load_loaded (s : State) : ∃ b good, s.load = s.boot b good ∧ b.Loaded := by
  unfold State.load
  split
  · rename_i b h
    exact ⟨b, true, rfl, loadImage_loaded h⟩
  · exact ⟨.defaults, false, rfl, ImageBody.defaults_loaded⟩

/-! ### The patch (R60, R76) -/

theorem PatchRec.overlaps_of_none {p q : PatchRec} (h : p.line = none) : p.overlaps q = false := by
  simp [overlaps, h]

theorem PatchRec.overlaps_comm (p q : PatchRec) : p.overlaps q = q.overlaps p := by
  unfold overlaps
  by_cases same : p.line = q.line
  · rw [same]
    simp only [decide_true, Bool.and_true]
    congr 1
    exact decide_eq_decide.2 And.comm
  · simp [same, Ne.symm same]

/-- The last slot of a patched channel is at most the highest patched slot of its line. -/
theorem lastSlot_le_highestSlot (patch : Vector PatchRec 1024) (n : ChannelNo) (l : LineNo)
    (on : (patch[n]).line = some l) : (patch[n]).lastSlot ≤ highestSlot patch l := by
  have grows : ∀ (ps : List PatchRec) (m : Nat),
      m ≤ ps.foldl (fun m p => if p.line = some l then max m p.lastSlot else m) m ∧
        ∀ p ∈ ps, p.line = some l →
          p.lastSlot ≤ ps.foldl (fun m p => if p.line = some l then max m p.lastSlot else m) m := by
    intro ps
    induction ps with
    | nil => simp
    | cons p ps ih =>
      intro m
      rw [List.foldl_cons]
      obtain ⟨start, each⟩ := ih (if p.line = some l then max m p.lastSlot else m)
      refine ⟨le_trans ?_ start, ?_⟩
      · split <;> omega
      · rintro q (_ | ⟨_, there⟩) line
        · rw [if_pos line] at start ⊢
          omega
        · exact each q there line
  exact (grows patch.toList 0).2 _ (by simp) on

/-- The patch law looks at the patch records and at the slot counts of the lines. -/
theorem State.patchLegal_of {s t : State} (patch : t.level.patch = s.level.patch)
    (slots : ∀ l : LineNo, (t.lines[l]).slots = (s.lines[l]).slots ∨
      highestSlot s.level.patch l ≤ (t.lines[l]).slots) (h : s.patchLegal) : t.patchLegal := by
  refine ⟨fun m n apart => patch ▸ h.1 m n apart, fun n l on => ?_⟩
  rw [patch] at on ⊢
  rcases slots l with same | above
  · exact same ▸ h.2 n l on
  · exact le_trans (lastSlot_le_highestSlot _ n l on) above

theorem State.ShowChange.patch {s t : State} (c : s.ShowChange t) :
    t.level.patch = s.level.patch ∧ t.lines = s.lines := by
  cases c <;> exact ⟨rfl, rfl⟩

theorem State.MarkChange.patch {s t : State} (c : s.MarkChange t) :
    t.level.patch = s.level.patch ∧ t.lines = s.lines := by
  cases c with
  | running c => exact c.patch
  | override => exact ⟨rfl, rfl⟩
  | repeats => exact ⟨rfl, rfl⟩

theorem State.afterDelete_eq (s : State) (k : StackNo) (n : Nat) :
    s.afterDelete k n = { s with cue := (s.afterDelete k n).cue } := by
  unfold State.afterDelete
  dsimp only
  split
  · rfl
  · split <;> rfl

theorem State.patchLegal_same {s t : State} (patch : t.level.patch = s.level.patch ∧ t.lines = s.lines)
    (h : s.patchLegal) : t.patchLegal :=
  State.patchLegal_of patch.1 (fun _ => .inl (by rw [patch.2])) h

/-- SET_PATCH keeps the patch law: its record takes no slot of another channel and none above its line's count. -/
theorem State.patchLegal_set {s : State} {n : ChannelNo} {p : PatchRec} (fits : s.patchConflict n p = false)
    (h : s.patchLegal) : State.patchLegal { s with level := { s.level with patch := s.level.patch.set n p } } := by
  have apart : ∀ m : ChannelNo, m ≠ n → p.overlaps s.level.patch[m] = false := by
    intro m other
    unfold patchConflict at fits
    split at fits
    · rename_i none
      exact PatchRec.overlaps_of_none none
    · obtain ⟨-, all⟩ := Bool.or_eq_false_iff.1 fits
      have this := List.any_eq_false.1 all m (List.mem_finRange m)
      simpa [other] using this
  have at' := fun m : ChannelNo => getElem_set_fin s.level.patch n m p
  refine ⟨fun m o other => ?_, fun m l on => ?_⟩
  · simp only [at']
    by_cases hm : n = m
    · subst hm
      rw [if_pos rfl, if_neg other]
      exact apart o (Ne.symm other)
    · rw [if_neg hm]
      by_cases ho : n = o
      · subst ho
        rw [if_pos rfl, PatchRec.overlaps_comm]
        exact apart m other
      · rw [if_neg ho]
        exact h.1 m o other
  · simp only [at'] at on ⊢
    by_cases hm : n = m
    · rw [if_pos hm] at on ⊢
      unfold patchConflict at fits
      rw [on] at fits
      have this := (Bool.or_eq_false_iff.1 fits).1
      exact Nat.not_lt.1 (of_decide_eq_false this)
    · rw [if_neg hm] at on ⊢
      exact h.2 m l on

theorem State.Change.patchLegal {s t : State} (c : s.Change t) (h : s.patchLegal) : t.patchLegal := by
  cases c with
  | running c => exact State.patchLegal_same c.patch h
  | level e patch => exact State.patchLegal_of patch (fun _ => .inl rfl) h
  | patch n p fits => exact State.patchLegal_set fits h
  | lines ls slots => exact State.patchLegal_of (s := s) rfl slots h
  | delete k n =>
    rw [State.afterDelete_eq]
    exact State.patchLegal_same (s := s) ⟨rfl, rfl⟩ h
  | _ => exact State.patchLegal_same (s := s) ⟨rfl, rfl⟩ h

theorem patchesApart_at {patch : Vector PatchRec 1024} (h : patchesApart patch = true) (m n : ChannelNo) (other : m ≠ n) :
    (patch[m]).overlaps patch[n] = false := by
  have pairs := of_decide_eq_true h
  rw [List.pairwise_filter, List.pairwise_iff_getElem] at pairs
  have below : ∀ m n : ChannelNo, m < n → (patch[m]).overlaps patch[n] = false := by
    intro m n lt
    cases lm : (patch[m]).line with
    | none => exact PatchRec.overlaps_of_none lm
    | some l =>
      cases ln : (patch[n]).line with
      | none => exact (PatchRec.overlaps_comm _ _).trans (PatchRec.overlaps_of_none ln)
      | some l' =>
        have this := pairs m.val n.val (by simp) (by simp) lt
        simp only [Vector.getElem_toList] at this
        exact this (by rw [← Fin.getElem_fin, lm]; rfl) (by rw [← Fin.getElem_fin, ln]; rfl)
  rcases Nat.lt_or_gt_of_ne (fun e => other (Fin.ext e)) with lt | gt
  · exact below m n lt
  · rw [PatchRec.overlaps_comm]
    exact below n m gt

theorem State.boot_patchLegal (s : State) {b : ImageBody} (good : Bool) (h : b.Loaded) : (s.boot b good).patchLegal := by
  have lawful := h.1
  simp only [ImageBody.lawful, Bool.and_eq_true] at lawful
  obtain ⟨⟨⟨⟨apart, covered⟩, -⟩, -⟩, -⟩ := lawful
  refine ⟨patchesApart_at apart, fun n l on => ?_⟩
  have this := List.all_eq_true.1 covered b.patch[n] (by simp)
  have on' : (b.patch[n]).line = some l := on
  rw [on'] at this
  simpa [State.boot, Line.start] using this

theorem patch_invariant : Invariant State.patchLegal where
  change _ _ c h := c.patchLegal h
  mark s order h := State.markSteps_keeps (P := State.patchLegal) (fun _ _ c h => State.patchLegal_same c.patch h) s order h
  ports _ _ h := h
  load s _ := by
    obtain ⟨b, good, eq, loaded⟩ := s.load_loaded
    rw [eq]
    exact s.boot_patchLegal good loaded

/-- Settles O52: SET_PATCH and SET_LINE check the patch before they change it, and the image is checked at loading. -/
theorem patchStaysLegal : Obligations.PatchStaysLegal :=
  fun _ _ h stepped => patch_invariant.step (fun _ _ h => h) stepped h

end Sys2Proof.Machine
end

section
/-! PROOF. The override table and the deferred queue keep their sizes and one entry per key. -/

namespace Sys2Proof.Machine

/-! ### Tables that replace an entry of one key, or take a new one -/

/-- Replacing the entries of one key by an entry of that key leaves the keys of a table. -/
theorem map_replace_key {α β : Type} [DecidableEq β] (key : α → β) (same : α → Bool) (d : α)
    (law : ∀ e, same e = decide (key e = key d)) (l : List α) :
    (l.map fun e => if same e then d else e).map key = l.map key := by
  rw [List.map_map]
  apply List.map_congr_left
  intro e _
  simp only [Function.comp_apply, law]
  by_cases h : key e = key d <;> simp [h]

theorem nodup_keys_append {α β : Type} [DecidableEq β] {key : α → β} {same : α → Bool} {d : α}
    (law : ∀ e, same e = decide (key e = key d)) {l : List α} (fresh : ¬ l.any same = true) (h : (l.map key).Nodup) :
    ((l ++ [d]).map key).Nodup := by
  rw [List.map_append, List.map_singleton, List.nodup_append]
  refine ⟨h, List.nodup_singleton _, ?_⟩
  intro b there c last e
  obtain ⟨a, at', rfl⟩ := List.mem_map.1 there
  rw [List.mem_singleton.1 last] at e
  exact fresh (List.any_eq_true.2 ⟨a, at', by simp [law, e]⟩)

/-! ### The deferred queue (R162, R163) -/

/-- What makes two entries of the deferred queue one: the item and the bank. -/
def Deferred.key (d : Deferred) : DeferTarget × Option BankName := (d.write.target, d.write.bank)

theorem Deferred.sameKey_eq (d e : Deferred) : d.write.sameKey e.write = decide (d.key = e.key) := by
  simp [ItemWrite.sameKey, Deferred.key]

theorem TallyUnit.queueLegal_iff (t : TallyUnit) :
    t.queueLegal ↔ t.queue.length ≤ 32 ∧ (t.queue.map Deferred.key).Nodup := by
  simp [queueLegal, List.Nodup, List.pairwise_map, Deferred.sameKey_eq]

theorem joinQueue_nodup {q : List Deferred} (d : Deferred) (h : (q.map Deferred.key).Nodup) :
    ((joinQueue q d).map Deferred.key).Nodup := by
  unfold joinQueue
  split
  · rw [map_replace_key Deferred.key _ d fun e => e.sameKey_eq d]
    exact h
  · rename_i fresh
    exact nodup_keys_append (fun e => e.sameKey_eq d) fresh h

theorem joinQueues_nodup (ds : List Deferred) {q : List Deferred} (h : (q.map Deferred.key).Nodup) :
    ((ds.foldl joinQueue q).map Deferred.key).Nodup := by
  induction ds generalizing q with
  | nil => exact h
  | cons d ds ih => exact ih (joinQueue_nodup d h)

theorem TallyUnit.queueLegal_sublist {t u : TallyUnit} (fewer : u.queue.Sublist t.queue) (h : t.queueLegal) :
    u.queueLegal :=
  ⟨le_trans fewer.length_le h.1, h.2.sublist fewer⟩

/-! ### The override table (R119, R121) -/

/-- What makes two overrides one: the level and the item. -/
def Override.key (e : Override) : Nat × OverrideKey := (e.level, e.item.key)

theorem Override.same_eq (x e : Override) :
    (x.level == e.level && decide (x.item.key = e.item.key)) = decide (x.key = e.key) := by
  simp [Override.key, Bool.beq_eq_decide_eq]

theorem TakeoverUnit.overridesLegal_iff (t : TakeoverUnit) : t.overridesLegal ↔
    t.overrides.length ≤ 256 ∧ (t.overrides.map Override.key).Nodup ∧ ∀ e ∈ t.overrides, isTakeover e.level = true := by
  have apart : ∀ x e : Override, x.apart e ↔ x.key ≠ e.key := fun x e => by simp [Override.apart, Override.key]
  simp only [overridesLegal, List.Nodup, List.pairwise_map, ← apart]

theorem writeOverride_nodup {table : List Override} (e : Override) (h : (table.map Override.key).Nodup) :
    ((writeOverride table e).map Override.key).Nodup := by
  unfold writeOverride
  split
  · rw [map_replace_key Override.key _ e fun x => x.same_eq e]
    exact h
  · rename_i fresh
    exact nodup_keys_append (fun x => x.same_eq e) fresh h

theorem mem_writeOverride {table : List Override} {e x : Override} (h : x ∈ writeOverride table e) :
    x ∈ table ∨ x = e := by
  unfold writeOverride at h
  split at h
  · obtain ⟨y, there, same⟩ := List.mem_map.1 h
    split at same
    · exact .inr same.symm
    · exact .inl (same ▸ there)
  · simpa using h

/-- An override's entries are of the table or newly written. -/
theorem mem_writeOverrides {es table : List Override} {x : Override} (h : x ∈ es.foldl writeOverride table) :
    x ∈ table ∨ x ∈ es := by
  induction es generalizing table with
  | nil => exact .inl h
  | cons e es ih =>
    rcases ih h with there | new
    · rcases mem_writeOverride there with old | rfl
      · exact .inl old
      · exact .inr List.mem_cons_self
    · exact .inr (List.mem_cons_of_mem _ new)

theorem writeOverrides_nodup (es : List Override) {table : List Override} (h : (table.map Override.key).Nodup) :
    ((es.foldl writeOverride table).map Override.key).Nodup := by
  induction es generalizing table with
  | nil => exact h
  | cons e es ih => exact ih (writeOverride_nodup e h)

/-- A write keeps every key that the table has. -/
theorem any_writeOverride {table : List Override} (e x : Override)
    (h : (table.any fun y => decide (y.key = x.key)) = true) :
    ((writeOverride table e).any fun y => decide (y.key = x.key)) = true := by
  obtain ⟨y, there, same⟩ := List.any_eq_true.1 h
  unfold writeOverride
  split
  · refine List.any_eq_true.2 ⟨_, List.mem_map_of_mem there, ?_⟩
    split
    · rename_i both
      rw [Override.same_eq, decide_eq_true_eq] at both
      rwa [← both]
    · exact same
  · exact List.any_eq_true.2 ⟨y, List.mem_append_left _ there, same⟩

theorem newKeys_eq (table es : List Override) :
    newKeys table es = (es.filter fun e => !table.any fun x => decide (x.key = e.key)).length := by
  simp only [newKeys, Override.same_eq]

theorem newKeys_writeOverride (table : List Override) (e : Override) (es : List Override) :
    newKeys (writeOverride table e) es ≤ newKeys table es := by
  rw [newKeys_eq, newKeys_eq]
  apply List.Sublist.length_le
  apply List.monotone_filter_right
  intro x absent
  rw [Bool.not_eq_eq_eq_not, Bool.not_true] at absent ⊢
  by_contra present
  rw [any_writeOverride e x (eq_true_of_ne_false present)] at absent
  cases absent

/-- The table grows by at most the keys that it did not have. -/
theorem writeOverrides_length (es table : List Override) :
    (es.foldl writeOverride table).length ≤ table.length + newKeys table es := by
  induction es generalizing table with
  | nil => simp
  | cons e es ih =>
    have one : (writeOverride table e).length + newKeys table es = table.length + newKeys table (e :: es) := by
      rw [newKeys_eq, newKeys_eq, writeOverride]
      simp only [Override.same_eq, List.filter_cons]
      by_cases h : (table.any fun x => decide (x.key = e.key)) = true
      · simp [h]
      · simp only [h, Bool.not_false, if_true]
        simp
        omega
    calc ((e :: es).foldl writeOverride table).length
        ≤ (writeOverride table e).length + newKeys (writeOverride table e) es := ih _
      _ ≤ (writeOverride table e).length + newKeys table es := Nat.add_le_add_left (newKeys_writeOverride _ _ _) _
      _ = table.length + newKeys table (e :: es) := one

theorem TakeoverUnit.overridesLegal_sublist {t u : TakeoverUnit} (fewer : u.overrides.Sublist t.overrides)
    (h : t.overridesLegal) : u.overridesLegal :=
  ⟨le_trans fewer.length_le h.1, h.2.1.sublist fewer, fun e there => h.2.2 e (fewer.subset there)⟩

theorem TakeoverUnit.overridesLegal_write {t u : TakeoverUnit} {es : List Override} {l : Nat}
    (written : u.overrides = es.foldl writeOverride t.overrides) (takeover : isTakeover l = true)
    (level : ∀ e ∈ es, e.level = l) (room : newKeys t.overrides es ≤ t.freeEntries) (h : t.overridesLegal) :
    u.overridesLegal := by
  rw [overridesLegal_iff] at h ⊢
  obtain ⟨size, keys, levels⟩ := h
  rw [written]
  refine ⟨?_, writeOverrides_nodup es keys, fun e there => ?_⟩
  · have grown := writeOverrides_length es t.overrides
    unfold TakeoverUnit.freeEntries at room
    omega
  · rcases mem_writeOverrides there with old | new
    · exact levels e old
    · rw [level e new]
      exact takeover

/-! ### Every step -/

/-- The override table and the deferred queue within their sizes, one entry per key. -/
def State.tablesLegal (s : State) : Prop := s.takeover.overridesLegal ∧ s.tally.queueLegal

theorem State.ShowChange.tablesLegal {s t : State} (c : s.ShowChange t) (h : s.tablesLegal) : t.tablesLegal := by
  cases c with
  | dequeue queue fewer => exact ⟨h.1, TallyUnit.queueLegal_sublist fewer h.2⟩
  | enqueue ds room =>
    refine ⟨h.1, (TallyUnit.queueLegal_iff _).2 ⟨room, ?_⟩⟩
    exact joinQueues_nodup ds ((TallyUnit.queueLegal_iff _).1 h.2).2
  | release l k holder => exact ⟨TakeoverUnit.overridesLegal_sublist (t := s.takeover) List.filter_sublist h.1, h.2⟩
  | _ => exact h

theorem State.MarkChange.tablesLegal {s t : State} (c : s.MarkChange t) (h : s.tablesLegal) : t.tablesLegal := by
  cases c with
  | running c => exact c.tablesLegal h
  | override k es takeover level room =>
    exact ⟨TakeoverUnit.overridesLegal_write (t := s.takeover) rfl takeover level room h.1, h.2⟩
  | repeats => exact h

theorem TakeoverUnit.withSafety_overrides (t : TakeoverUnit) (e l : Bool) :
    (t.withSafety e l).overrides = t.overrides := rfl

theorem State.Change.tablesLegal {s t : State} (c : s.Change t) (h : s.tablesLegal) : t.tablesLegal := by
  cases c with
  | running c => exact c.tablesLegal h
  | tally t fewer => exact ⟨h.1, TallyUnit.queueLegal_sublist fewer h.2⟩
  | delete k n => rw [State.afterDelete_eq]; exact h
  | clear rest => exact ⟨TakeoverUnit.overridesLegal_sublist (t := s.takeover) (List.nil_sublist _) h.1, h.2⟩
  | _ => exact h

theorem tables_invariant : Invariant State.tablesLegal where
  change _ _ c h := c.tablesLegal h
  mark s order h := State.markSteps_keeps (P := State.tablesLegal) (fun _ _ c h => c.tablesLegal h) s order h
  ports _ _ h := h
  load s _ := by
    obtain ⟨b, good, eq, -⟩ := s.load_loaded
    rw [eq]
    exact ⟨⟨Nat.zero_le _, .nil, fun _ there => nomatch there⟩, Nat.zero_le _, .nil⟩

/-- Settles O45: a write to a table replaces the entry of its key or takes a free one. -/
theorem tablesKeepOneEntryPerKey : Obligations.TablesKeepOneEntryPerKey :=
  fun _ _ overrides queue stepped => tables_invariant.step (fun _ _ h => h) stepped ⟨overrides, queue⟩

end Sys2Proof.Machine
end

section
/-! PROOF. Claims of two owners stay apart, and an ENGINEERING port is always left. -/

namespace Sys2Proof.Machine

theorem ClaimRange.shares_comm (a b : ClaimRange) : a.shares b = b.shares a := by
  cases a <;> cases b <;> simp only [shares]
  case channels => exact decide_eq_decide.2 And.comm
  case windows => rw [BitVec.and_comm]
  case group => exact Bool.beq_comm
  case stack => exact Bool.beq_comm

/-- A claim that settles keeps its range, and one that was not CONTESTED stays as it was. -/
theorem Claim.Settles.of_some {before after : Option Claim} {c' : Claim} (settles : Claim.Settles before after)
    (h : after = some c') : ∃ c, before = some c ∧ c'.range = c.range ∧ (c.contest = none → c' = c) ∧
      (c'.contest.isSome = true → c' = c) := by
  rcases settles with gone | ⟨c, was, same | left | ⟨w, contested, moved⟩⟩
  · rw [gone] at h; cases h
  · rw [same] at h; cases h
    exact ⟨c', was, rfl, fun _ => rfl, fun _ => rfl⟩
  · rw [left] at h; cases h
    exact ⟨c, was, rfl, fun quiet => by cases c; cases quiet; rfl, fun waits => nomatch waits⟩
  · rw [moved] at h; cases h
    exact ⟨c, was, rfl, fun quiet => (by rw [quiet] at contested; cases contested), fun waits => nomatch waits⟩

/-- The law of the claim table with both sides CONTESTED or not. -/
theorem AccessUnit.claimsLegal.apart {a : AccessUnit} (h : a.claimsLegal) {i j : ClaimId} {c d : Claim} (other : i ≠ j)
    (ci : a.claims[i] = some c) (dj : a.claims[j] = some d)
    (sep : c.owner ≠ d.owner ∨ c.contest.isSome = true ∨ d.contest.isSome = true) : c.range.shares d.range = false := by
  rcases sep with owners | mine | theirs
  · exact h.1 i j c d other ci dj (.inl owners)
  · exact h.1 i j c d other ci dj (.inr mine)
  · rw [ClaimRange.shares_comm]
    exact h.1 j i d c (Ne.symm other) dj ci (.inr theirs)

theorem AccessUnit.claimsLegal_of_claims {a b : AccessUnit} (same : b.claims = a.claims) (h : a.claimsLegal) :
    b.claimsLegal := by
  unfold claimsLegal
  rw [same]
  exact h

theorem AccessUnit.claimsLegal_settled {a b : AccessUnit}
    (settles : ∀ id : ClaimId, Claim.Settles a.claims[id] b.claims[id]) (h : a.claimsLegal) : b.claimsLegal := by
  refine ⟨fun i j c' d' other ci dj sep => ?_, fun i c' w ci contested => ?_⟩
  · obtain ⟨c, was, range, quiet, kept⟩ := (settles i).of_some ci
    obtain ⟨d, was', range', quiet', -⟩ := (settles j).of_some dj
    rw [range, range']
    apply h.apart other was was'
    by_contra none
    simp only [not_or, not_not, Bool.not_eq_true, Option.isSome_eq_false_iff, Option.isNone_iff_eq_none] at none
    obtain ⟨owners, mine, theirs⟩ := none
    rw [quiet mine, quiet' theirs, owners, mine] at sep
    simp at sep
  · obtain ⟨c, was, -, -, kept⟩ := (settles i).of_some ci
    have same : c' = c := kept (by rw [contested]; rfl)
    subst same
    exact h.2 i c' w was contested

/-- CLAIM keeps the law of the claim table: its range shares no item with another port's claim or a CONTESTED one. -/
theorem AccessUnit.claimsLegal_claim {a : AccessUnit} {id : ClaimId} {p : Port} {r : ClaimRange} {auto : Bool}
    (apart : a.claimConflict p r = false) (h : a.claimsLegal) :
    AccessUnit.claimsLegal { a with claims := a.claims.set id (some ⟨p, r, auto, none⟩) } := by
  have new : ∀ (j : ClaimId) (d : Claim), a.claims[j] = some d → (d.owner ≠ p ∨ d.contest.isSome = true) →
      d.range.shares r = false := by
    intro j d used sep
    have this := List.any_eq_false.1 apart a.claims[j] (by simp)
    rw [used] at this
    by_contra shares
    exact this (by simp [eq_true_of_ne_false shares, sep])
  have at' := fun j : ClaimId => getElem_set_fin a.claims id j (some ⟨p, r, auto, none⟩)
  refine ⟨fun i j c d other ci dj sep => ?_, fun i c w ci contested => ?_⟩
  · simp only [at'] at ci dj
    split at ci
    · rename_i i_new
      cases ci
      rw [if_neg (fun e => other (i_new ▸ e))] at dj
      rw [ClaimRange.shares_comm]
      exact new j d dj (.inl (sep.resolve_right (by simp)).symm)
    · split at dj
      · cases dj
        exact new i c ci sep
      · exact h.1 i j c d other ci dj sep
  · simp only [at'] at ci
    split at ci
    · cases ci; cases contested
    · exact h.2 i c w ci contested

/-- ASK keeps the law of the claim table: the claim shares no item with another claim of its owner. -/
theorem AccessUnit.claimsLegal_contest {a : AccessUnit} {id : ClaimId} {x : Claim} {w : Contest}
    (used : a.claims[id] = some x) (waits : x.owner ≠ w.waiting) (apart : a.sharedByOwner id x = false)
    (h : a.claimsLegal) :
    AccessUnit.claimsLegal { a with claims := a.claims.set id (some { x with contest := some w }) } := by
  have own : ∀ (j : ClaimId) (d : Claim), j ≠ id → a.claims[j] = some d → d.range.shares x.range = false := by
    intro j d other there
    by_cases same : d.owner = x.owner
    · have this := List.any_eq_false.1 apart j (List.mem_finRange j)
      rw [there] at this
      simpa [other, same] using this
    · exact h.1 j id d x other there used (.inl same)
  have at' := fun j : ClaimId => getElem_set_fin a.claims id j (some { x with contest := some w })
  refine ⟨fun i j c d other ci dj sep => ?_, fun i c w' ci contested => ?_⟩
  · simp only [at'] at ci dj
    split at ci
    · rename_i i_new
      cases ci
      have j_old : ¬ id = j := fun e => other (i_new ▸ e)
      rw [if_neg j_old] at dj
      rw [ClaimRange.shares_comm]
      exact own j d (Ne.symm j_old) dj
    · rename_i i_old
      split at dj
      · cases dj
        exact own i c (Ne.symm i_old) ci
      · exact h.1 i j c d other ci dj sep
  · simp only [at'] at ci
    split at ci
    · cases ci; cases contested
      exact Ne.symm waits
    · exact h.2 i c w' ci contested

theorem withEngineer_has (roles : Vector PortRole 4) : ∃ p : Port, (withEngineer roles)[p] = .engineering := by
  unfold withEngineer
  split
  · rename_i some
    obtain ⟨r, there, engineer⟩ := List.any_eq_true.1 some
    obtain ⟨i, lt, same⟩ := List.mem_iff_getElem.1 there
    refine ⟨⟨i, by simpa using lt⟩, ?_⟩
    simpa [← same] using engineer
  · exact ⟨0, by simp⟩

/-! ### Every step -/

/-- The claims and the roles within their laws. -/
def State.accessLegal (s : State) : Prop := s.access.claimsLegal ∧ s.access.hasEngineer

theorem State.ShowChange.access {s t : State} (c : s.ShowChange t) : t.access = s.access := by
  cases c <;> rfl

theorem State.MarkChange.access {s t : State} (c : s.MarkChange t) : t.access = s.access := by
  cases c with
  | running c => exact c.access
  | override => rfl
  | repeats => rfl

theorem State.accessLegal_same {s t : State} (same : t.access = s.access) (h : s.accessLegal) : t.accessLegal := by
  unfold accessLegal
  rw [same]
  exact h

theorem State.Change.accessLegal {s t : State} (c : s.Change t) (h : s.accessLegal) : t.accessLegal := by
  obtain ⟨claims, engineer⟩ := h
  cases c with
  | running c => exact State.accessLegal_same c.access ⟨claims, engineer⟩
  | access a same engineer' => exact ⟨AccessUnit.claimsLegal_of_claims same claims, engineer' engineer⟩
  | claims cs settles => exact ⟨AccessUnit.claimsLegal_settled (a := s.access) settles claims, engineer⟩
  | claim id p r auto free apart => exact ⟨AccessUnit.claimsLegal_claim apart claims, engineer⟩
  | contest id c w used other apart => exact ⟨AccessUnit.claimsLegal_contest used other apart claims, engineer⟩
  | delete k n => rw [State.afterDelete_eq]; exact ⟨claims, engineer⟩
  | _ => exact ⟨claims, engineer⟩

theorem access_invariant : Invariant State.accessLegal where
  change _ _ c h := c.accessLegal h
  mark s order h := State.markSteps_keeps (P := State.accessLegal)
    (fun _ _ c h => State.accessLegal_same c.access h) s order h
  ports _ _ h := h
  load s _ := by
    obtain ⟨b, good, eq, -⟩ := s.load_loaded
    rw [eq]
    have free : ∀ i : ClaimId, (s.boot b good).access.claims[i] = none := fun i => by simp [State.boot]
    refine ⟨⟨fun i j c d _ ci => ?_, fun i c w ci => ?_⟩, withEngineer_has b.roles⟩ <;> rw [free i] at ci <;> cases ci

/-- Settles O50: CLAIM and ASK check the other claims, and SET_ROLE the other roles, before they change one. -/
theorem accessStaysLegal : Obligations.AccessStaysLegal :=
  fun _ _ claims engineer stepped => access_invariant.step (fun _ _ h => h) stepped ⟨claims, engineer⟩

end Sys2Proof.Machine
end

section
/-! PROOF. The cue store in order and within its pools, and every stack on a cue of its list or at END. -/

namespace Sys2Proof.Machine

/-! ### The order of the store, and the record of one stack and number -/

theorem Cue.before_iff (a b : Cue) : a.before b = true ↔
    a.stack.val < b.stack.val ∨ a.stack.val = b.stack.val ∧ a.number < b.number := by
  rw [before, Bool.or_eq_true, decide_eq_true_eq, decide_eq_true_eq, Fin.ext_iff]
  rfl

theorem Cue.before_trans {a b c : Cue} (ab : a.before b = true) (bc : b.before c = true) : a.before c = true := by
  rw [before_iff] at *
  omega

theorem Cue.before_ne {a b : Cue} (ab : a.before b = true) : ¬ (b.stack = a.stack ∧ b.number = a.number) := by
  rw [before_iff] at ab
  rw [Fin.ext_iff]
  omega

/-- A record that is neither before nor at another one stands behind it. -/
theorem Cue.before_of_not {a b : Cue} (ab : ¬ a.before b = true) (other : ¬ (a.stack = b.stack ∧ a.number = b.number)) :
    b.before a = true := by
  rw [before_iff] at *
  rw [Fin.ext_iff] at other
  omega

theorem Cue.before_of_same {a b c : Cue} (same : a.stack = b.stack ∧ a.number = b.number) (bc : b.before c = true) :
    a.before c = true := by
  rw [before_iff] at *
  rw [same.1, same.2]
  exact bc

/-- The first record of a stack and number in a list of records. -/
def findCue (l : List Cue) (k : StackNo) (n : Nat) : Option Cue := l.find? fun q => decide (q.stack = k ∧ q.number = n)

theorem CueUnit.find_eq (c : CueUnit) (k : StackNo) (n : Nat) : c.find k n = findCue c.store k n := rfl

theorem findCue_cons (x : Cue) (l : List Cue) (k : StackNo) (n : Nat) :
    findCue (x :: l) k n = if x.stack = k ∧ x.number = n then some x else findCue l k n := by
  rw [findCue, List.find?_cons]
  by_cases h : x.stack = k ∧ x.number = n
  · rw [decide_eq_true h, if_pos h]
  · rw [decide_eq_false h, if_neg h]; rfl

theorem findCue_none_of_before {q : Cue} {l : List Cue} (h : ∀ y ∈ l, q.before y = true) :
    findCue l q.stack q.number = none :=
  List.find?_eq_none.2 fun y there same => Cue.before_ne (h y there) (of_decide_eq_true same)

/-! ### STORE_CUE (R94) -/

/-- A stored record is the one found under its number, and the others are found as before. -/
theorem findCue_insertCue (q : Cue) (l : List Cue) (k : StackNo) (n : Nat) :
    findCue (insertCue q l) k n = if q.stack = k ∧ q.number = n then some q else findCue l k n := by
  induction l with
  | nil => rw [insertCue, findCue_cons]
  | cons x l ih =>
    rw [insertCue]
    split
    · rw [findCue_cons]
    · split
      · rename_i same
        rw [findCue_cons, findCue_cons, ← same.1, ← same.2]
        split <;> rfl
      · rename_i other
        rw [findCue_cons, ih, findCue_cons]
        by_cases hq : q.stack = k ∧ q.number = n
        · have hx : ¬ (x.stack = k ∧ x.number = n) := fun hx =>
            other ⟨hq.1.trans hx.1.symm, hq.2.trans hx.2.symm⟩
          rw [if_neg hx, if_pos hq, if_pos hq]
        · rw [if_neg hq, if_neg hq]

theorem mem_insertCue {q y : Cue} {l : List Cue} (h : y ∈ insertCue q l) : y = q ∨ y ∈ l := by
  induction l with
  | nil => simpa [insertCue] using h
  | cons x l ih =>
    rw [insertCue] at h
    split at h
    · simpa using h
    · split at h
      · exact (List.mem_cons.1 h).imp_right (List.mem_cons_of_mem _)
      · rcases List.mem_cons.1 h with rfl | there
        · exact .inr List.mem_cons_self
        · exact (ih there).imp_right (List.mem_cons_of_mem _)

theorem insertCue_ordered (q : Cue) {l : List Cue} (h : l.Pairwise fun a b => a.before b = true) :
    (insertCue q l).Pairwise fun a b => a.before b = true := by
  induction l with
  | nil => simp [insertCue]
  | cons x l ih =>
    obtain ⟨first, rest⟩ := List.pairwise_cons.1 h
    rw [insertCue]
    split
    · rename_i front
      refine List.pairwise_cons.2 ⟨fun y there => ?_, h⟩
      rcases List.mem_cons.1 there with rfl | there
      · exact front
      · exact Cue.before_trans front (first y there)
    · split
      · rename_i same
        exact List.pairwise_cons.2 ⟨fun y there => Cue.before_of_same same (first y there), rest⟩
      · rename_i behind other
        refine List.pairwise_cons.2 ⟨fun y there => ?_, ih rest⟩
        rcases mem_insertCue there with rfl | there
        · exact Cue.before_of_not behind other
        · exact first y there

/-- What a store takes of a pool: its own record's part, less that of the record it replaces. -/
theorem insertCue_sum (f : Cue → Nat) (q : Cue) {l : List Cue} (h : l.Pairwise fun a b => a.before b = true) :
    ((insertCue q l).map f).sum + ((findCue l q.stack q.number).map f).getD 0 = (l.map f).sum + f q := by
  induction l with
  | nil => simp [insertCue, findCue]
  | cons x l ih =>
    obtain ⟨first, rest⟩ := List.pairwise_cons.1 h
    rw [insertCue]
    split
    · rename_i front
      have behind : ∀ y ∈ x :: l, q.before y = true := by
        rintro y (_ | ⟨_, there⟩)
        · exact front
        · exact Cue.before_trans front (first y there)
      rw [findCue_none_of_before behind]
      simp only [List.map_cons, List.sum_cons, Option.map_none, Option.getD_none]
      omega
    · split
      · rename_i same
        rw [findCue_cons, if_pos ⟨same.1.symm, same.2.symm⟩]
        simp only [List.map_cons, List.sum_cons, Option.map_some, Option.getD_some]
        omega
      · rename_i other
        rw [findCue_cons, if_neg fun e => other ⟨e.1.symm, e.2.symm⟩]
        have := ih rest
        simp only [List.map_cons, List.sum_cons]
        omega

theorem insertCue_length (q : Cue) {l : List Cue} (h : l.Pairwise fun a b => a.before b = true) :
    (insertCue q l).length + ((findCue l q.stack q.number).map fun _ => 1).getD 0 = l.length + 1 := by
  have := insertCue_sum (fun _ => 1) q h
  simpa using this

theorem CueUnit.storeLegal_store {c : CueUnit} {q : Cue} (number : 1 ≤ q.number ∧ q.number ≤ 9999)
    (actions : 1 ≤ q.body.actions.length ∧ q.body.actions.length ≤ 16)
    (slots : ∀ old, c.find q.stack q.number = some old →
      q.body.actions.length ≤ c.freeSlots + old.body.actions.length)
    (room : c.find q.stack q.number = none → 1 ≤ c.freeRecords ∧ q.body.actions.length ≤ c.freeSlots)
    (h : c.storeLegal) : CueUnit.storeLegal { c with store := insertCue q c.store } := by
  obtain ⟨order, records, used, ranges⟩ := h
  have length := insertCue_length q order
  have sum := insertCue_sum (fun q => q.body.actions.length) q order
  rw [find_eq] at slots room
  unfold freeSlots at slots room
  unfold freeRecords at room
  unfold usedSlots at *
  refine ⟨insertCue_ordered q order, ?_, show (List.map _ (insertCue q c.store)).sum ≤ 4096 from ?_, fun y there => ?_⟩
  · cases found : findCue c.store q.stack q.number with
    | none =>
      have := room found
      rw [found] at length
      simp only [Option.map_none, Option.getD_none] at length
      dsimp only
      omega
    | some old =>
      rw [found] at length
      simp only [Option.map_some, Option.getD_some] at length
      dsimp only
      omega
  · cases found : findCue c.store q.stack q.number with
    | none =>
      have := room found
      rw [found] at sum
      simp only [Option.map_none, Option.getD_none] at sum
      omega
    | some old =>
      have := slots old found
      rw [found] at sum
      simp only [Option.map_some, Option.getD_some] at sum
      omega
  · rcases mem_insertCue there with rfl | old
    · exact ⟨number.1, number.2, actions⟩
    · exact ranges y old

/-! ### DELETE_CUE (R97) -/

/-- The store without one record. -/
def CueUnit.without (c : CueUnit) (k : StackNo) (n : Nat) : CueUnit :=
  { c with store := c.store.filter fun q => !decide (q.stack = k ∧ q.number = n) }

theorem CueUnit.find_without (c : CueUnit) (k j : StackNo) (n m : Nat) :
    (c.without k n).find j m = if j = k ∧ m = n then none else c.find j m := by
  unfold CueUnit.find without
  rw [List.find?_filter]
  split
  · rename_i same
    rw [same.1, same.2]
    exact List.find?_eq_none.2 fun q _ both => by
      obtain ⟨out, at'⟩ := of_decide_eq_true both
      rw [at'] at out
      cases out
  · rename_i other
    congr 1
    funext q
    by_cases h : q.stack = j ∧ q.number = m
    · have out : ¬ (q.stack = k ∧ q.number = n) := fun e => other ⟨h.1.symm.trans e.1, h.2.symm.trans e.2⟩
      rw [decide_eq_true h, decide_eq_false out]; rfl
    · rw [decide_eq_false h]
      exact decide_eq_false fun both => nomatch both.2

theorem CueUnit.storeLegal_without {c : CueUnit} (k : StackNo) (n : Nat) (h : c.storeLegal) :
    (c.without k n).storeLegal := by
  obtain ⟨order, records, used, ranges⟩ := h
  have fewer : ((c.without k n).store).Sublist c.store := List.filter_sublist
  refine ⟨order.sublist fewer, le_trans fewer.length_le records, ?_, fun q there => ranges q (fewer.subset there)⟩
  exact le_trans ((fewer.map _).sum_le_sum fun _ _ => Nat.zero_le _) used

/-! ### The stacks -/

/-- A stack's record on a cue of its list or at END, its loop context on a cue of its list. -/
def CueUnit.recLegal (c : CueUnit) (k : StackNo) (r : StackRec) : Prop :=
  (r.state = .ended ↔ r.position = none) ∧ (∀ n, r.position = some n → (c.find k n).isSome = true) ∧
    ∀ x, r.loop = some x → (c.find k x.startCue).isSome = true

theorem CueUnit.stacksLegal_iff (c : CueUnit) : c.stacksLegal ↔ ∀ k : StackNo, c.recLegal k c.recs[k] := Iff.rfl

theorem CueUnit.recLegal_halt {c : CueUnit} {k : StackNo} {r : StackRec}
    (position : ∀ n, r.position = some n → (c.find k n).isSome = true) : c.recLegal k r.halt :=
  ⟨StackRec.halt_ended r, position, fun _ loop => nomatch loop⟩

theorem CueUnit.recLegal_haltAt {c : CueUnit} {k : StackNo} {r : StackRec} {pos : Option Nat}
    (position : ∀ n, pos = some n → (c.find k n).isSome = true) : c.recLegal k (r.haltAt pos) :=
  recLegal_halt (r := { r with position := pos }) position

theorem CueUnit.stacksLegal_modStack {s : State} {k : StackNo} {f : StackRec → StackRec}
    (move : s.cue.recLegal k (f s.cue.recs[k])) (h : s.cue.stacksLegal) : (s.modStack k f).cue.stacksLegal := by
  intro j
  rw [State.modStack_at]
  split
  · rename_i same
    exact same ▸ move
  · exact h j

theorem CueUnit.restart_stacksLegal (c : CueUnit) : c.restart.stacksLegal := by
  intro k
  have at' : c.restart.recs[k] = (c.recs[k]).restart (c.first k) := by simp [restart]
  rw [at']
  exact recLegal_haltAt (c := c) fun n first => CueUnit.find_first first

theorem State.StackMove.recLegal {s : State} {k : StackNo} {r r' : StackRec} (move : s.StackMove k r r')
    (h : s.cue.recLegal k r) : s.cue.recLegal k r' := by
  obtain ⟨ended, position, loop⟩ := h
  refine ⟨move.ended ended, ?_, fun x' is => ?_⟩
  · rcases move.position with same | found
    · rw [same]; exact position
    · exact found
  · rcases move.loop x' is with ⟨x, was, start⟩ | found
    · exact start ▸ loop x was
    · exact found

theorem State.presented_waits {s : State} {k : StackNo} (h : s.presented k = true) :
    ∃ n, (s.cue.recs[k]).state = .waiting n := by
  unfold State.presented at h
  dsimp only at h
  split at h
  · rename_i n state
    exact ⟨n, state⟩
  · simp at h

theorem State.grant_stacksLegal {s : State} {k : StackNo} (h : s.cue.stacksLegal) :
    CueUnit.stacksLegal { s.cue with recs := s.grantRecs k } := by
  intro j
  have at' : (s.grantRecs k)[j] = if j = k then (s.cue.recs[j]).grant
      else if s.presented j then (s.cue.recs[j]).lose else s.cue.recs[j] := by simp [State.grantRecs]
  show s.cue.recLegal j (s.grantRecs k)[j]
  rw [at']
  obtain ⟨ended, position, loop⟩ := h j
  split
  · refine ⟨?_, position, loop⟩
    unfold StackRec.grant
    cases (s.cue.recs[j]).position <;> simp
  · split
    · rename_i presented
      obtain ⟨n, waits⟩ := State.presented_waits presented
      refine ⟨⟨fun e => (nomatch e), fun none => ?_⟩, position, loop⟩
      rw [ended.2 none] at waits
      cases waits
    · exact ⟨ended, position, loop⟩

theorem State.afterDelete_cue {s : State} (k : StackNo) (n : Nat) (h : s.cue.stacksLegal) :
    (State.afterDelete { s with cue := s.cue.without k n } k n).cue.stacksLegal := by
  have kept : ∀ (j : StackNo) (m : Nat), ¬ (j = k ∧ m = n) → (s.cue.find j m).isSome = true →
      ((s.cue.without k n).find j m).isSome = true := fun j m other found => by
    rw [CueUnit.find_without, if_neg other]; exact found
  have others : ∀ j, j ≠ k → (s.cue.without k n).recLegal j s.cue.recs[j] := fun j other => by
    obtain ⟨ended, position, loop⟩ := h j
    exact ⟨ended, fun m is => kept j m (fun e => other e.1) (position m is),
      fun x is => kept j _ (fun e => other e.1) (loop x is)⟩
  obtain ⟨ended, position, loop⟩ := h k
  have changed : ∀ f : StackRec → StackRec, (s.cue.without k n).recLegal k (f s.cue.recs[k]) →
      (State.modStack { s with cue := s.cue.without k n } k f).cue.stacksLegal := fun f own j => by
    rw [State.modStack_at]
    split
    · rename_i same
      exact same ▸ own
    · rename_i other
      exact others j (Ne.symm other)
  unfold State.afterDelete
  dsimp only
  split
  · exact changed (fun r => r.haltAt _) (CueUnit.recLegal_haltAt fun m next => CueUnit.find_next next)
  · rename_i elsewhere
    have stands : ∀ m, (s.cue.recs[k]).position = some m → ((s.cue.without k n).find k m).isSome = true :=
      fun m is => kept k m (fun e => elsewhere (e.2 ▸ is)) (position m is)
    split
    · exact changed (fun r => { r with loop := none }) ⟨ended, stands, fun _ is => nomatch is⟩
    · rename_i loops
      intro j
      by_cases same : j = k
      · subst same
        refine ⟨ended, stands, fun x is => kept j _ (fun e => loops ?_) (loop x is)⟩
        rw [← e.2]
        exact congrArg (Option.map LoopContext.startCue) is
      · exact others j same

/-! ### Every step -/

/-- The cue unit within its laws. -/
def State.cueLegal (s : State) : Prop := s.cue.storeLegal ∧ s.cue.stacksLegal

theorem State.ShowChange.cueLegal {s t : State} (c : s.ShowChange t) (h : s.cueLegal) : t.cueLegal := by
  obtain ⟨store, onCues⟩ := h
  cases c with
  | stack k f move => exact ⟨store, CueUnit.stacksLegal_modStack (move.recLegal (onCues k)) onCues⟩
  | grant k chosen => exact ⟨store, State.grant_stacksLegal onCues⟩
  | release l k holder =>
    exact ⟨store, CueUnit.stacksLegal_modStack (s := { s with takeover := _ })
      (CueUnit.recLegal_halt (onCues k).2.1) onCues⟩
  | _ => exact ⟨store, onCues⟩

theorem State.MarkChange.cueLegal {s t : State} (c : s.MarkChange t) (h : s.cueLegal) : t.cueLegal := by
  cases c with
  | running c => exact c.cueLegal h
  | override => exact h
  | repeats k n i stands =>
    obtain ⟨-, position, loop⟩ := h.2 k
    refine ⟨h.1, CueUnit.stacksLegal_modStack ⟨⟨fun e => (nomatch e), fun ended => ?_⟩, position, loop⟩ h.2⟩
    have ended' : (s.cue.recs[k]).position = none := ended
    rw [ended'] at stands
    cases stands

theorem State.Change.cueLegal {s t : State} (c : s.Change t) (h : s.cueLegal) : t.cueLegal := by
  obtain ⟨store, onCues⟩ := h
  cases c with
  | running c => exact c.cueLegal ⟨store, onCues⟩
  | store q number actions slots room =>
    refine ⟨CueUnit.storeLegal_store number actions slots room store, fun j => ?_⟩
    have kept : ∀ m, (s.cue.find j m).isSome = true →
        (CueUnit.find { s.cue with store := insertCue q s.cue.store } j m).isSome = true := fun m found => by
      rw [CueUnit.find_eq, findCue_insertCue]
      split
      · rfl
      · exact found
    obtain ⟨ended, position, loop⟩ := onCues j
    exact ⟨ended, fun n is => kept n (position n is), fun x is => kept _ (loop x is)⟩
  | delete k n =>
    refine ⟨?_, State.afterDelete_cue k n onCues⟩
    have same : ∀ u : State, (u.afterDelete k n).cue.store = u.cue.store := fun u => by
      unfold State.afterDelete
      dsimp only
      split
      · rfl
      · split <;> rfl
    have legal := CueUnit.storeLegal_without k n store
    unfold CueUnit.storeLegal CueUnit.usedSlots at legal ⊢
    rw [same]
    exact legal
  | stackLevel k l free => exact ⟨store, CueUnit.stacksLegal_modStack (onCues k) onCues⟩
  | restart => exact ⟨store, CueUnit.restart_stacksLegal _⟩
  | _ => exact ⟨store, onCues⟩

theorem State.boot_cueLegal (s : State) {b : ImageBody} (good : Bool) (h : b.Loaded) : (s.boot b good).cueLegal := by
  obtain ⟨lawful, ranges⟩ := h
  simp only [ImageBody.lawful, storeOrdered, Bool.and_eq_true, decide_eq_true_eq] at lawful
  obtain ⟨⟨⟨-, order⟩, records⟩, used⟩ := lawful
  exact ⟨⟨order, records, used, ranges⟩, CueUnit.restart_stacksLegal _⟩

theorem cue_invariant : Invariant State.cueLegal where
  change _ _ c h := c.cueLegal h
  mark s order h := State.markSteps_keeps (P := State.cueLegal) (fun _ _ c h => c.cueLegal h) s order h
  ports _ _ h := h
  load s _ := by
    obtain ⟨b, good, eq, loaded⟩ := s.load_loaded
    rw [eq]
    exact s.boot_cueLegal good loaded

/-- Settles O40: a store keeps the order and the pools, and a stack moves to cues that its list holds. -/
theorem cueUnitStaysLegal : Obligations.CueUnitStaysLegal :=
  fun _ _ store onCues stepped => cue_invariant.step (fun _ _ h => h) stepped ⟨store, onCues⟩

end Sys2Proof.Machine
end

section
/-! PROOF. An IDLE transmitter has nothing left to send, and the port queues keep their sizes. -/

namespace Sys2Proof.Machine

open Relation

/-- A port whose transmitter is IDLE with nothing to send, but for an owed notice, and whose queues hold at most four. -/
def PortState.calm (x : PortState) : Prop :=
  (x.tx = none → x.overruns = [] ∧ x.queue = []) ∧ x.queue.length ≤ 4 ∧ x.overruns.length ≤ 4

def State.calm (s : State) : Prop := ∀ q : Port, (s.ports.port[q]).calm

/-- Two states of a port that send, queue and owe the same. -/
def PortState.SendsAs (x y : PortState) : Prop := y.tx = x.tx ∧ y.queue = x.queue ∧ y.overruns = x.overruns

theorem PortState.SendsAs.refl (x : PortState) : x.SendsAs x := ⟨rfl, rfl, rfl⟩

theorem PortState.SendsAs.trans {x y z : PortState} (a : x.SendsAs y) (b : y.SendsAs z) : x.SendsAs z :=
  ⟨b.1.trans a.1, b.2.1.trans a.2.1, b.2.2.trans a.2.2⟩

theorem PortState.SendsAs.calm {x y : PortState} (same : x.SendsAs y) (h : x.calm) : y.calm := by
  obtain ⟨tx, queue, overruns⟩ := same
  unfold PortState.calm
  rw [tx, queue, overruns]
  exact h

theorem PortState.calm_of_sending {x : PortState} {f : TxFrame} (sends : x.tx = some f) (queue : x.queue.length ≤ 4)
    (overruns : x.overruns.length ≤ 4) : x.calm :=
  ⟨fun idle => (by rw [sends] at idle; cases idle), queue, overruns⟩

theorem State.settled_of_calm {s : State} (calm : s.calm) (quiet : s.quiet) : s.settled := fun q =>
  ⟨fun idle => ⟨idle, quiet q idle, (calm q).1 idle⟩, (calm q).2⟩

theorem State.settled.calm {s : State} (h : s.settled) : s.calm := fun q =>
  ⟨fun idle => ((h q).1 idle).2.2, (h q).2⟩

theorem State.settled.quiet {s : State} (h : s.settled) : s.quiet := fun q idle => ((h q).1 idle).2.1

/-! ### Runs of changes leave what the ports send -/

theorem State.ShowChange.sendsAs {s t : State} (c : s.ShowChange t) (q : Port) :
    (s.ports.port[q]).SendsAs t.ports.port[q] := by
  cases c with
  | alert d a =>
    rw [State.raiseTo_at]
    split
    · obtain ⟨-, -, -, queue, overruns, tx, -, -⟩ := (s.ports.port[q]).receive_keeps a
      exact ⟨tx, queue, overruns⟩
    · exact .refl _
  | _ => exact .refl _

theorem State.MarkChange.sendsAs {s t : State} (c : s.MarkChange t) (q : Port) :
    (s.ports.port[q]).SendsAs t.ports.port[q] := by
  cases c with
  | running c => exact c.sendsAs q
  | override => exact .refl _
  | repeats => exact .refl _

theorem State.Change.sendsAs {s t : State} (c : s.Change t) (q : Port) :
    (s.ports.port[q]).SendsAs t.ports.port[q] := by
  cases c with
  | running c => exact c.sendsAs q
  | ports c keeps => exact ⟨(keeps q).1, (keeps q).2.1, (keeps q).2.2.1⟩
  | delete k n => rw [State.afterDelete_eq]; exact .refl _
  | _ => exact .refl _

theorem State.Runs.sendsAs {s t : State} (run : s.Runs t) (q : Port) : (s.ports.port[q]).SendsAs t.ports.port[q] :=
  run.keeps (P := fun t => (s.ports.port[q]).SendsAs t.ports.port[q]) (fun _ _ c h => h.trans (c.sendsAs q))
    (fun t order h => State.markSteps_keeps (P := fun t => (s.ports.port[q]).SendsAs t.ports.port[q])
      (fun _ _ c h => h.trans (c.sendsAs q)) t order h) (.refl _)

theorem State.Runs.calm {s t : State} (run : s.Runs t) (h : s.calm) : t.calm := fun q => (run.sendsAs q).calm (h q)

/-! ### The arbiter -/

theorem State.startNotices_settled {s : State} (h : s.calm) : s.startNotices.settled := by
  refine State.settled_of_calm (fun q => ?_) s.startNotices_quiet
  rw [State.startNotices_at]
  unfold PortState.startNotice
  split
  · exact PortState.calm_of_sending rfl (h q).2.1 (h q).2.2
  · exact h q

theorem State.modPort_calm {s : State} {p : Port} {f : PortState → PortState} (others : ∀ q, q ≠ p → (s.ports.port[q]).calm)
    (own : (f s.ports.port[p]).calm) : (s.modPort p f).calm := fun q => by
  rw [State.modPort_at]
  split
  · exact own
  · rename_i other
    exact others q (Ne.symm other)

/-- A request taken leaves its port SENDING its reply. -/
theorem State.takeRequest_calm {s : State} {p : Port} (q : Queued) (others : ∀ q, q ≠ p → (s.ports.port[q]).calm)
    (queue : (s.ports.port[p]).queue.length ≤ 4) (overruns : (s.ports.port[p]).overruns.length ≤ 4) :
    (s.takeRequest p q).calm := by
  have same := (s.answer_changes p q.code q.payload).runs.sendsAs
  refine State.modPort_calm (fun q other => (same q).calm (others q other)) (PortState.calm_of_sending rfl ?_ ?_)
  · exact (same p).2.1 ▸ queue
  · exact (same p).2.2 ▸ overruns

/-- The arbiter leaves its port SENDING, or IDLE with nothing to send. -/
theorem State.arbitrate_calm {s : State} {p : Port} (others : ∀ q, q ≠ p → (s.ports.port[q]).calm)
    (queue : (s.ports.port[p]).queue.length ≤ 4) (overruns : (s.ports.port[p]).overruns.length ≤ 4) :
    (s.arbitrate p).calm := by
  have all (own : (s.ports.port[p]).calm) : s.calm := fun q => by
    by_cases same : q = p
    · exact same ▸ own
    · exact others q same
  unfold State.arbitrate
  dsimp only
  split
  · rename_i f sends
    exact all (PortState.calm_of_sending sends queue overruns)
  · rename_i idle owed
    refine State.modPort_calm others ?_
    rw [PortState.startNotice, idle, owed]
    exact PortState.calm_of_sending rfl queue overruns
  · rename_i o os idle owed owes
    refine State.modPort_calm others (PortState.calm_of_sending rfl queue ?_)
    rw [owes, List.length_cons] at overruns
    exact Nat.le_of_succ_le overruns
  · rename_i q qs idle owed owes waits
    refine State.takeRequest_calm q (fun r other => ?_) ?_ ?_
    · rw [State.modPort_at, if_neg (Ne.symm other)]
      exact others r other
    · rw [State.modPort_at, if_pos rfl]
      rw [waits, List.length_cons] at queue
      exact Nat.le_of_succ_le queue
    · rw [State.modPort_at, if_pos rfl]
      exact overruns
  · rename_i idle owed owes waits
    exact all ⟨fun _ => ⟨owes, waits⟩, queue, overruns⟩

theorem PortState.enqueue_lengths (x : PortState) (q : Queued) (now : Frame) (h : x.calm) :
    (x.enqueue q now).queue.length ≤ 4 ∧ (x.enqueue q now).overruns.length ≤ 4 := by
  obtain ⟨-, queue, overruns⟩ := h
  obtain ⟨-, keptQueue, keptOverruns, -⟩ := x.bump_keeps .overrun
  unfold PortState.enqueue
  split
  · simp only [List.length_append, List.length_singleton]
    omega
  · dsimp only
    split
    · simp only [keptQueue, keptOverruns, List.length_append, List.length_singleton]
      omega
    · rw [keptQueue, keptOverruns]
      exact ⟨queue, overruns⟩

theorem State.receive_calm {s : State} (p : Port) (q : Queued) (h : s.calm) : (s.receive p q).calm := by
  obtain ⟨queue, overruns⟩ := (s.ports.port[p]).enqueue_lengths q s.ref.counter (h p)
  refine State.arbitrate_calm (fun r other => ?_) ?_ ?_
  · rw [State.modPort_at, if_neg (Ne.symm other)]
    exact h r
  · rw [State.modPort_at, if_pos rfl]
    exact queue
  · rw [State.modPort_at, if_pos rfl]
    exact overruns

theorem PortState.takeRate_sendsAs (x : PortState) : x.SendsAs x.takeRate := by
  unfold PortState.takeRate
  split
  · dsimp only
    split
    · obtain ⟨tx, queue, overruns, -⟩ := x.bump_keeps .framing
      exact ⟨tx, queue, overruns⟩
    · exact .refl _
  · exact .refl _

theorem State.transmitEnd_calm {s : State} (p : Port) (h : s.calm) : (s.transmitEnd p).calm := by
  have rated (x : PortState) : x.SendsAs (x.rateReady p).takeRate :=
    PortState.SendsAs.trans (y := x.rateReady p) ⟨rfl, rfl, rfl⟩ (PortState.takeRate_sendsAs _)
  have at' (c : PortController) (q : Port) :
      (mapTab (fun x : PortState => (x.rateReady p).takeRate) c.port)[q] = ((c.port[q]).rateReady p).takeRate := by
    simp
  unfold State.transmitEnd
  split
  · exact h
  · refine State.arbitrate_calm (fun q other => ?_) ?_ ?_
    · show PortState.calm (mapTab _ _)[q]
      rw [at', State.modPort_at, if_neg (Ne.symm other)]
      exact (rated _).calm (h q)
    · show ((mapTab _ _)[p] : PortState).queue.length ≤ 4
      rw [at', State.modPort_at, if_pos rfl, (rated _).2.1]
      exact (h p).2.1
    · show ((mapTab _ _)[p] : PortState).overruns.length ≤ 4
      rw [at', State.modPort_at, if_pos rfl, (rated _).2.2]
      exact (h p).2.2

/-! ### Every step -/

theorem State.load_calm (s : State) : s.load.calm := by
  obtain ⟨b, good, eq, -⟩ := s.load_loaded
  intro q
  rw [eq]
  have at' : (s.boot b good).ports.port[q] = PortState.start b.rates[q] := by simp [State.boot]
  rw [at']
  exact ⟨fun _ => ⟨rfl, rfl⟩, Nat.zero_le _, Nat.zero_le _⟩

theorem State.Effect.settled {s t : State} (effect : s.Effect t) (h : s.settled) : t.settled := by
  cases effect with
  | runs run => exact State.startNotices_settled (run.calm h.calm)
  | still run notices =>
    refine State.settled_of_calm (run.calm h.calm) fun q idle => ?_
    rw [(run.sendsAs q).1] at idle
    rw [notices q]
    exact h.quiet q idle
  | receive run p q => exact State.startNotices_settled (State.receive_calm p q (run.calm h.calm))
  | sent p => exact State.startNotices_settled (State.transmitEnd_calm p h.calm)
  | lineBreak p =>
    refine State.settled_of_calm (State.modPort_calm (fun q _ => h.calm q) ?_) fun q => ?_
    · exact ⟨fun _ => ⟨rfl, rfl⟩, Nat.zero_le _, Nat.zero_le _⟩
    · rw [State.modPort_at]
      split
      · exact h.quiet p
      · exact h.quiet q
  | reset e => exact State.startNotices_settled ((State.setSafety_changes _ e false).runs.calm s.load_calm)

/-- Settles O11: a run of changes leaves what a port sends, and the arbiter starts what a port has to send. -/
theorem portsStaySettled : Obligations.PortsStaySettled := by
  intro s t h stepped
  unfold step at stepped
  split at stepped
  · cases stepped; exact h
  · rename_i c rest _
    obtain ⟨u, answers, effect⟩ := exec_effect c { s with pending := rest }
    rw [answers] at stepped
    cases stepped
    exact effect.settled h

end Sys2Proof.Machine
end

section
/-! PROOF. The preemption stack in order, and every override at a level that stands on it. -/

namespace Sys2Proof.Machine

/-! ### The choice of the best of several: the highest level, and the lowest number in it (R118, R43) -/

/-- The last step of a choice: a candidate takes the place of the best so far where its level is higher. -/
def better {ι β : Type} [LT β] [DecidableRel (α := β) (· < ·)] (c : ι → Bool) (level : ι → β) (best : Option ι) (k : ι) :
    Option ι :=
  if c k then
    match best with
    | some j => if level j < level k then some k else best
    | none => some k
  else best

/-- A choice along an ascending list is a candidate of the highest level and of the lowest number in it, and there is
none only where no candidate stands. -/
theorem foldl_better {n : Nat} {β : Type} [LinearOrder β] [DecidableRel (α := β) (· < ·)] (c : Fin n → Bool) (level : Fin n → β) (l : List (Fin n))
    (ascending : l.Pairwise (· < ·)) :
    (∀ i, l.foldl (better c level) none = some i → i ∈ l ∧ c i = true ∧
      ∀ j ∈ l, c j = true → level j < level i ∨ level j = level i ∧ i ≤ j) ∧
    (l.foldl (better c level) none = none → ∀ j ∈ l, c j = false) := by
  induction l using List.reverseRecOn with
  | nil => simp
  | append_singleton l k ih =>
    obtain ⟨front, -, behind⟩ := List.pairwise_append.1 ascending
    have before : ∀ j ∈ l, j < k := fun j there => behind j there k (List.mem_singleton_self k)
    obtain ⟨chosen, absent⟩ := ih front
    rw [List.foldl_append, List.foldl_cons, List.foldl_nil]
    generalize l.foldl (better c level) none = best at chosen absent
    unfold better
    by_cases ck : c k = true
    · rw [if_pos ck]
      cases best with
      | none =>
        refine ⟨fun i same => ?_, fun e => nomatch e⟩
        cases same
        refine ⟨by simp, ck, fun j there cj => ?_⟩
        rcases List.mem_append.1 there with old | new
        · rw [absent rfl j old] at cj; cases cj
        · rw [List.mem_singleton.1 new]
          exact .inr ⟨rfl, le_rfl⟩
      | some i =>
        obtain ⟨at', ci, best'⟩ := chosen i rfl
        dsimp only
        split
        · rename_i above
          refine ⟨fun i' same => ?_, fun e => nomatch e⟩
          cases same
          refine ⟨by simp, ck, fun j there cj => ?_⟩
          rcases List.mem_append.1 there with old | new
          · rcases best' j old cj with lt | ⟨eq, -⟩
            · exact .inl (lt.trans above)
            · exact .inl (eq ▸ above)
          · rw [List.mem_singleton.1 new]
            exact .inr ⟨rfl, le_rfl⟩
        · rename_i notAbove
          refine ⟨fun i' same => ?_, fun e => nomatch e⟩
          cases same
          refine ⟨List.mem_append_left _ at', ci, fun j there cj => ?_⟩
          rcases List.mem_append.1 there with old | new
          · exact best' j old cj
          · rw [List.mem_singleton.1 new]
            rcases lt_or_eq_of_le (not_lt.1 notAbove) with lt | eq
            · exact .inl lt
            · exact .inr ⟨eq, (before i at').le⟩
    · rw [if_neg ck]
      refine ⟨fun i same => ?_, fun none => fun j there => ?_⟩
      · obtain ⟨at', ci, best'⟩ := chosen i same
        refine ⟨List.mem_append_left _ at', ci, fun j there cj => ?_⟩
        rcases List.mem_append.1 there with old | new
        · exact best' j old cj
        · rw [List.mem_singleton.1 new] at cj
          exact absurd cj ck
      · rcases List.mem_append.1 there with old | new
        · exact absent none j old
        · rw [List.mem_singleton.1 new]
          exact eq_false_of_ne_true ck

/-- The stack that a grant chooses (R118): one that asks, of the highest level and of the lowest number in it. -/
theorem State.grantee_spec (s : State) :
    (∀ k, s.grantee = some k → (s.presented k || s.eligible k) = true ∧
      ∀ j, (s.presented j || s.eligible j) = true →
        (s.cue.recs[j]).level < (s.cue.recs[k]).level ∨ (s.cue.recs[j]).level = (s.cue.recs[k]).level ∧ k ≤ j) ∧
    (s.grantee = none → ∀ j, (s.presented j || s.eligible j) = false) := by
  have eq : s.grantee = (List.finRange 8).foldl
      (better (fun k => s.presented k || s.eligible k) fun k => (s.cue.recs[k]).level) none := by
    unfold State.grantee
    congr 1
    funext best k
    cases best <;> rfl
  obtain ⟨chosen, absent⟩ := foldl_better (fun k => s.presented k || s.eligible k) (fun k => (s.cue.recs[k]).level)
    (List.finRange 8) (List.pairwise_lt_finRange 8)
  rw [← eq] at chosen absent
  exact ⟨fun k h => ⟨(chosen k h).2.1, fun j => (chosen k h).2.2 j (List.mem_finRange j)⟩,
    fun h j => absent h j (List.mem_finRange j)⟩

/-! ### The preemption stack -/

theorem State.preemptionLegal.unique {s : State} (h : s.preemptionLegal) {l : Nat} {j k : StackNo}
    (hj : PreEntry.level l j ∈ s.takeover.stack) (hk : PreEntry.level l k ∈ s.takeover.stack) : j = k := by
  have ranks : (s.takeover.stack.map PreEntry.rank).Nodup := List.pairwise_map.2 (h.1.imp Nat.ne_of_lt)
  injection List.inj_on_of_nodup_map ranks hj hk rfl

theorem TakeoverUnit.mem_of_holder {t : TakeoverUnit} {l : Nat} {k : StackNo} (h : t.holder l = some k) :
    PreEntry.level l k ∈ t.stack := by
  obtain ⟨e, there, found⟩ := List.exists_of_findSome?_eq_some h
  cases e with
  | safety => cases found
  | level m j =>
    dsimp only at found
    split at found
    · rename_i same
      cases found
      rw [beq_iff_eq.1 same] at there
      exact there
    · cases found

theorem State.preemptionLegal.holder {s : State} (h : s.preemptionLegal) {l : Nat} {k : StackNo}
    (there : PreEntry.level l k ∈ s.takeover.stack) : s.takeover.holder l = some k := by
  cases found : s.takeover.holder l with
  | some j => rw [h.unique (TakeoverUnit.mem_of_holder found) there]
  | none =>
    have this := List.findSome?_eq_none_iff.1 found _ there
    simp at this

theorem State.preemptionLegal.level {s : State} (h : s.preemptionLegal) {l : Nat} {k : StackNo}
    (there : PreEntry.level l k ∈ s.takeover.stack) : l = (s.cue.recs[k]).level := (h.2.1 l k there).2.symm

theorem TakeoverUnit.rank_le_mask {t : TakeoverUnit} (order : t.stack.Pairwise fun a b => a.rank < b.rank) {e : PreEntry}
    (there : e ∈ t.stack) : e.rank ≤ t.mask := by
  unfold mask
  rcases List.eq_nil_or_concat t.stack with empty | ⟨front, last, same⟩
  · rw [empty] at there; cases there
  · rw [List.concat_eq_append] at same
    rw [same] at there order ⊢
    rw [List.getLast?_append, List.getLast?_singleton, Option.some_or]
    rcases List.mem_append.1 there with below | top
    · exact ((List.pairwise_append.1 order).2.2 e below last (List.mem_singleton_self _)).le
    · rw [List.mem_singleton.1 top]

theorem TakeoverUnit.holds_iff (t : TakeoverUnit) (k : StackNo) :
    t.holds k = true ↔ ∃ l, PreEntry.level l k ∈ t.stack := by
  unfold holds
  rw [List.any_eq_true]
  constructor
  · rintro ⟨e, there, same⟩
    cases e with
    | safety => cases same
    | level l j =>
      rw [← beq_iff_eq.1 (show (j == k) = true from same)]
      exact ⟨l, there⟩
  · rintro ⟨l, there⟩
    exact ⟨_, there, beq_self_eq_true k⟩

theorem TakeoverUnit.onTop_iff (t : TakeoverUnit) (k : StackNo) :
    t.onTop k = true ↔ ∃ l, t.stack.getLast? = some (.level l k) := by
  unfold onTop topStack
  cases t.stack.getLast? with
  | none => simp
  | some e => cases e <;> simp

theorem TakeoverUnit.holds_of_onTop {t : TakeoverUnit} {k : StackNo} (h : t.onTop k = true) : t.holds k = true := by
  obtain ⟨l, last⟩ := (t.onTop_iff k).1 h
  exact (t.holds_iff k).2 ⟨l, List.mem_of_getLast? last⟩

/-- A takeover stack that the mask does not suspend stands above it, or on top (R117). -/
theorem TakeoverUnit.suspends_takeover {t : TakeoverUnit} {k : StackNo} {l : Nat} (takeover : isTakeover l = true) :
    t.suspends k l = false ↔ t.mask < l ∨ t.mask = l ∧ t.onTop k = true := by
  unfold suspends
  rw [takeover, Bool.true_and, Bool.or_eq_false_iff, Bool.and_eq_false_iff, decide_eq_false_iff_not,
    decide_eq_false_iff_not, Bool.not_eq_false']
  constructor
  · rintro ⟨le, other | top⟩
    · exact .inl (by omega)
    · rcases Nat.lt_or_ge t.mask l with lt | ge
      · exact .inl lt
      · exact .inr ⟨by omega, top⟩
  · rintro (lt | ⟨same, top⟩)
    · exact ⟨by omega, .inl (by omega)⟩
    · exact ⟨by omega, .inr top⟩

theorem State.presented_iff (s : State) (k : StackNo) : s.presented k = true ↔
    isTakeover (s.cue.recs[k]).level = true ∧ s.takeover.holds k = false ∧
      s.takeover.suspends k (s.cue.recs[k]).level = false ∧ ∃ n, (s.cue.recs[k]).state = .waiting n := by
  unfold State.presented
  dsimp only
  cases (s.cue.recs[k]).state <;> simp [and_assoc]

/-- A stack that a grant chooses and that is not on top has a takeover level above the mask. -/
theorem State.grantee_above {s : State} {k : StackNo} (chosen : s.grantee = some k) :
    isTakeover (s.cue.recs[k]).level = true ∧
      (s.takeover.onTop k = false → s.takeover.mask < (s.cue.recs[k]).level) := by
  rcases Bool.or_eq_true_iff.1 (s.grantee_spec.1 k chosen).1 with presented | eligible
  · obtain ⟨takeover, -, free, -⟩ := (s.presented_iff k).1 presented
    refine ⟨takeover, fun below => ((TakeoverUnit.suspends_takeover takeover).1 free).resolve_right fun top => ?_⟩
    rw [top.2] at below
    cases below
  · unfold State.eligible at eligible
    simp only [Bool.and_eq_true, Bool.or_eq_true, decide_eq_true_eq] at eligible
    obtain ⟨⟨takeover, -⟩, above⟩ := eligible
    refine ⟨takeover, fun below => above.resolve_right fun top => ?_⟩
    rw [top] at below
    cases below

/-- The preemption law looks at the preemption stack, at the levels of the stacks and at whether safety is in force. -/
theorem State.preemptionLegal_of {s t : State} (stack : t.takeover.stack = s.takeover.stack)
    (inForce : t.takeover.inForce = s.takeover.inForce)
    (levels : ∀ k : StackNo, (t.cue.recs[k]).level = (s.cue.recs[k]).level) (h : s.preemptionLegal) :
    t.preemptionLegal := by
  unfold preemptionLegal
  rw [stack, inForce]
  refine ⟨h.1, fun l k there => ?_, h.2.2⟩
  rw [levels k]
  exact h.2.1 l k there

theorem State.modStack_levels (s : State) {k : StackNo} {f : StackRec → StackRec}
    (keeps : (f s.cue.recs[k]).level = (s.cue.recs[k]).level) (j : StackNo) :
    ((s.modStack k f).cue.recs[j]).level = (s.cue.recs[j]).level := by
  rw [State.modStack_at]
  split
  · rename_i same
    exact same ▸ keeps
  · rfl

theorem State.grantRecs_at (s : State) (k j : StackNo) : (s.grantRecs k)[j] =
    if j = k then (s.cue.recs[j]).grant else if s.presented j then (s.cue.recs[j]).lose else s.cue.recs[j] := by
  simp [State.grantRecs]

theorem State.grantRecs_level (s : State) (k j : StackNo) : ((s.grantRecs k)[j]).level = (s.cue.recs[j]).level := by
  rw [State.grantRecs_at]
  split
  · rfl
  · split <;> rfl

/-- Pushing an entry above the mask keeps the order. -/
theorem TakeoverUnit.push_ordered {t : TakeoverUnit} (order : t.stack.Pairwise fun a b => a.rank < b.rank) {e : PreEntry}
    (above : ∀ x ∈ t.stack, x.rank < e.rank) : (t.stack ++ [e]).Pairwise fun a b => a.rank < b.rank :=
  List.pairwise_append.2 ⟨order, List.pairwise_singleton _ _, fun x there y last => by
    rw [List.mem_singleton.1 last]; exact above x there⟩

theorem State.grant_preemptionLegal {s : State} {k : StackNo} (chosen : s.grantee = some k) (h : s.preemptionLegal) :
    State.preemptionLegal { s with
      cue := { s.cue with recs := s.grantRecs k }
      takeover := { s.takeover with stack := s.grantEntries k } } := by
  obtain ⟨takeover, above⟩ := State.grantee_above chosen
  obtain ⟨order, levels, safety⟩ := h
  unfold preemptionLegal grantEntries
  simp only [State.grantRecs_level]
  split
  · exact ⟨order, levels, safety⟩
  · rename_i below
    have lt := above (eq_false_of_ne_true below)
    refine ⟨TakeoverUnit.push_ordered order fun x there => ?_, fun l j there => ?_, ?_⟩
    · exact Nat.lt_of_le_of_lt (TakeoverUnit.rank_le_mask order there) lt
    · rcases List.mem_append.1 there with old | new
      · exact levels l j old
      · cases List.mem_singleton.1 new
        exact ⟨takeover, rfl⟩
    · exact Iff.trans (by simp) safety

theorem State.ShowChange.preemptionLegal {s t : State} (c : s.ShowChange t) (h : s.preemptionLegal) :
    t.preemptionLegal := by
  cases c with
  | stack k f move => exact State.preemptionLegal_of (s := s) rfl rfl (s.modStack_levels move.level) h
  | grant k chosen => exact State.grant_preemptionLegal chosen h
  | release l k holder =>
    refine State.preemptionLegal_of (s := { s with takeover := { s.takeover with
      stack := s.takeover.stack.filter fun e => !e.isLevel l
      overrides := s.takeover.overrides.filter fun e => e.level != l } }) rfl rfl
      (State.modStack_levels (s := { s with takeover := _ }) rfl) ⟨h.1.sublist List.filter_sublist, fun m j there => ?_, ?_⟩
    · exact h.2.1 m j (List.mem_of_mem_filter there)
    · exact Iff.trans (by simp [PreEntry.isLevel]) h.2.2
  | _ => exact h

theorem State.MarkChange.preemptionLegal {s t : State} (c : s.MarkChange t) (h : s.preemptionLegal) :
    t.preemptionLegal := by
  cases c with
  | running c => exact c.preemptionLegal h
  | override => exact h
  | repeats k n i stands => exact State.preemptionLegal_of (s := s) rfl rfl (s.modStack_levels rfl) h

theorem isTakeover_iff (l : Nat) : isTakeover l = true ↔ 5 ≤ l ∧ l ≤ 7 := by simp [isTakeover]

/-- Safety in force stands on top of every level, and the end of safety takes its entry away (R128). -/
theorem State.withSafety_preemptionLegal {s : State} (e l : Bool) (h : s.preemptionLegal) :
    State.preemptionLegal { s with takeover := s.takeover.withSafety e l } := by
  obtain ⟨order, levels, safety⟩ := h
  have new : (s.takeover.withSafety e l).inForce = (e || l) := rfl
  unfold State.preemptionLegal
  rw [new]
  unfold TakeoverUnit.withSafety
  cases was : s.takeover.inForce <;> cases now : e || l
  · rw [was] at safety; exact ⟨order, levels, safety⟩
  · have absent : PreEntry.safety ∉ s.takeover.stack := fun there => by
      rw [was] at safety; exact Bool.noConfusion (safety.1 there)
    refine ⟨TakeoverUnit.push_ordered order fun x there => ?_, fun m j there => ?_, by simp⟩
    · cases x with
      | safety => exact absurd there absent
      | level m j => exact Nat.lt_succ_of_le ((isTakeover_iff m).1 (levels m j there).1).2
    · rcases List.mem_append.1 there with old | last
      · exact levels m j old
      · cases List.mem_singleton.1 last
  · refine ⟨order.sublist List.filter_sublist, fun m j there => levels m j (List.mem_of_mem_filter there), ?_⟩
    simp [List.mem_filter]
  · rw [was] at safety; exact ⟨order, levels, safety⟩

theorem State.afterDelete_recs (s : State) (k : StackNo) (n : Nat) (j : StackNo) :
    ((s.afterDelete k n).cue.recs[j]).level = (s.cue.recs[j]).level ∧
      (((s.afterDelete k n).cue.recs[j]).state = (s.cue.recs[j]).state ∨
        ((s.afterDelete k n).cue.recs[j]).state.settled = true) := by
  unfold State.afterDelete
  dsimp only
  split
  · rw [State.modStack_at]
    split
    · rename_i same
      subst same
      refine ⟨rfl, .inr ?_⟩
      unfold StackRec.haltAt StackRec.halt
      dsimp only
      split <;> rfl
    · exact ⟨rfl, .inl rfl⟩
  · split
    · rw [State.modStack_at]
      split
      · rename_i same
        exact same ▸ ⟨rfl, .inl rfl⟩
      · exact ⟨rfl, .inl rfl⟩
    · exact ⟨rfl, .inl rfl⟩

theorem CueUnit.restart_recs (c : CueUnit) (j : StackNo) :
    ((c.restart.recs)[j]).level = (c.recs[j]).level ∧ ((c.restart.recs)[j]).state.settled = true := by
  have at' : c.restart.recs[j] = (c.recs[j]).restart (c.first j) := by simp [CueUnit.restart]
  rw [at']
  exact ⟨rfl, StackRec.restart_settled _ _⟩

theorem State.levelFree_iff (s : State) (k : StackNo) : s.levelFree k = true ↔
    ((s.cue.recs[k]).state = .idle ∨ (s.cue.recs[k]).state = .ended) ∧ (s.cue.recs[k]).pendingGo = false ∧
      (s.cue.recs[k]).chainedGo = false ∧ s.takeover.holds k = false := by
  simp [State.levelFree, and_assoc]

theorem State.Change.preemptionLegal {s t : State} (c : s.Change t) (h : s.preemptionLegal) : t.preemptionLegal := by
  cases c with
  | running c => exact c.preemptionLegal h
  | delete k n =>
    refine State.preemptionLegal_of (s := s) ?_ ?_ (fun j => (State.afterDelete_recs _ k n j).1) h <;>
      rw [State.afterDelete_eq]
  | stackLevel k l free =>
    obtain ⟨-, -, -, holds⟩ := (s.levelFree_iff k).1 free
    refine ⟨h.1, fun m j there => ?_, h.2.2⟩
    rw [State.modStack_at]
    split
    · rename_i same
      subst same
      rw [(s.takeover.holds_iff k).2 ⟨m, there⟩] at holds
      cases holds
    · exact h.2.1 m j there
  | restart => exact State.preemptionLegal_of (s := s) rfl rfl (fun j => (s.cue.restart_recs j).1) h
  | clear rest =>
    refine ⟨h.1.sublist List.filter_sublist, fun l k there => h.2.1 l k (List.mem_of_mem_filter there), ?_⟩
    exact Iff.trans (by simp) h.2.2
  | safety e l => exact State.withSafety_preemptionLegal e l h
  | _ => exact h

theorem State.boot_preemptionLegal (s : State) (b : ImageBody) (good : Bool) : (s.boot b good).preemptionLegal :=
  ⟨.nil, fun _ _ there => (nomatch there), ⟨fun there => (nomatch there), fun e => (nomatch e)⟩⟩

theorem preemption_invariant : Invariant State.preemptionLegal where
  change _ _ c h := c.preemptionLegal h
  mark s order h := State.markSteps_keeps (P := State.preemptionLegal) (fun _ _ c h => c.preemptionLegal h) s order h
  ports _ _ h := h
  load s _ := by
    obtain ⟨b, good, eq, -⟩ := s.load_loaded
    rw [eq]
    exact s.boot_preemptionLegal b good

end Sys2Proof.Machine
end

section
/-! PROOF. Every override at a level that stands on the preemption stack, where every REPEATING takeover stack holds its
level: the laws of 7.3 through the steps of a MARK. -/

namespace Sys2Proof.Machine

/-- The preemption stack in order, and every override at a level that stands on it. -/
def State.takeoverLegal (s : State) : Prop := s.preemptionLegal ∧ s.overridesHeld

/-- The stack holds its takeover level, where it has one. -/
def State.holdsLevel (s : State) (k : StackNo) : Prop :=
  isTakeover (s.cue.recs[k]).level = true → PreEntry.level (s.cue.recs[k]).level k ∈ s.takeover.stack

/-- A stack's record may become one of its level that is not ARMED at a takeover level, and REPEATING there only where
the stack holds the level. -/
theorem State.takeoverLegal_modStack {s : State} {k : StackNo} {f : StackRec → StackRec} (h : s.takeoverLegal)
    (level : (f s.cue.recs[k]).level = (s.cue.recs[k]).level)
    (state : isTakeover (s.cue.recs[k]).level = true →
      (∀ n i, (f s.cue.recs[k]).state = .repeating n i → PreEntry.level (s.cue.recs[k]).level k ∈ s.takeover.stack) ∧
        ∀ g e, (f s.cue.recs[k]).state ≠ .armed g e) : (s.modStack k f).takeoverLegal := by
  refine ⟨State.preemptionLegal_of (s := s) rfl rfl (s.modStack_levels level) h.1, h.2.1, fun j takeover => ?_⟩
  rw [State.modStack_levels s level] at takeover ⊢
  rw [State.modStack_at]
  split
  · rename_i same
    subst same
    exact state takeover
  · exact h.2.2 j takeover

theorem State.overridesHeld_same {s t : State} (overrides : t.takeover.overrides.Sublist s.takeover.overrides)
    (stack : ∀ l k, PreEntry.level l k ∈ s.takeover.stack → PreEntry.level l k ∈ t.takeover.stack)
    (recs : ∀ k : StackNo, (t.cue.recs[k]).level = (s.cue.recs[k]).level ∧
      ((t.cue.recs[k]).state = (s.cue.recs[k]).state ∨ (t.cue.recs[k]).state.settled = true))
    (h : s.overridesHeld) : t.overridesHeld := by
  refine ⟨fun e there => ?_, fun k takeover => ?_⟩
  · obtain ⟨k, holds⟩ := h.1 e (overrides.subset there)
    exact ⟨k, stack _ k holds⟩
  · obtain ⟨level, state⟩ := recs k
    rw [level] at takeover ⊢
    rcases state with same | rests
    · rw [same]
      exact ⟨fun n i is => stack _ k ((h.2 k takeover).1 n i is), (h.2 k takeover).2⟩
    · constructor
      · intro n i is; rw [is] at rests; cases rests
      · intro g e is; rw [is] at rests; cases rests

theorem StackRec.grant_settled (r : StackRec) : r.grant.state.settled = true := by
  unfold StackRec.grant
  dsimp only
  split <;> rfl

theorem StackRec.halt_settled (r : StackRec) : r.halt.state.settled = true := by
  unfold StackRec.halt
  dsimp only
  split <;> rfl

theorem State.mem_grantEntries {s : State} (k : StackNo) {e : PreEntry} (there : e ∈ s.takeover.stack) :
    e ∈ s.grantEntries k := by
  unfold State.grantEntries
  split
  · exact there
  · exact List.mem_append_left _ there

/-- A release leaves every other level on the preemption stack, and halts the stack that held the level. -/
theorem State.release_overridesHeld {s : State} {l : Nat} {k : StackNo} (holder : s.takeover.holder l = some k)
    (h : s.takeoverLegal) : State.overridesHeld (State.modStack { s with takeover := { s.takeover with
      stack := s.takeover.stack.filter fun e => !e.isLevel l
      overrides := s.takeover.overrides.filter fun e => e.level != l } } k StackRec.halt) := by
  have stays : ∀ m j, m ≠ l → PreEntry.level m j ∈ s.takeover.stack →
      PreEntry.level m j ∈ s.takeover.stack.filter fun e => !e.isLevel l := fun m j other there =>
    List.mem_filter.2 ⟨there, by simpa [PreEntry.isLevel] using other⟩
  have recs : ∀ (u : State) (j : StackNo), ((u.modStack k StackRec.halt).cue.recs[j]).level = (u.cue.recs[j]).level :=
    fun u j => u.modStack_levels rfl j
  refine ⟨fun e there => ?_, fun j takeover => ?_⟩
  · obtain ⟨was, other⟩ := List.mem_filter.1 there
    obtain ⟨j, holds⟩ := h.2.1 e was
    exact ⟨j, stays _ j (by simpa using other) holds⟩
  · rw [recs] at takeover ⊢
    rw [State.modStack_at]
    split
    · rename_i same
      subst same
      have rests := StackRec.halt_settled (s.cue.recs[k])
      constructor
      · intro n i is; rw [show (s.cue.recs[k]).halt.state = _ from is] at rests; cases rests
      · intro g e is; rw [show (s.cue.recs[k]).halt.state = _ from is] at rests; cases rests
    · rename_i other
      obtain ⟨repeating, armed⟩ := h.2.2 j takeover
      refine ⟨fun n i is => stays _ j (fun level => other ?_) (repeating n i is), armed⟩
      have there := repeating n i is
      rw [show (s.cue.recs[j]).level = l from level] at there
      exact h.1.unique (TakeoverUnit.mem_of_holder holder) there

theorem State.ShowChange.takeoverLegal {s t : State} (c : s.ShowChange t) (h : s.takeoverLegal) : t.takeoverLegal := by
  cases c with
  | stack k f move =>
    refine State.takeoverLegal_modStack h move.level fun takeover => ⟨fun n i is => ?_, fun g e is => ?_⟩
    · obtain ⟨n', i', was⟩ := move.repeating n i is
      exact (h.2.2 k takeover).1 n' i' was
    · obtain ⟨g', e', was⟩ := move.armed takeover g e is
      exact (h.2.2 k takeover).2 g' e' was
  | grant k chosen =>
    refine ⟨State.grant_preemptionLegal chosen h.1, State.overridesHeld_same (s := s) (.refl _)
      (fun _ _ => State.mem_grantEntries k) (fun j => ⟨s.grantRecs_level k j, ?_⟩) h.2⟩
    rw [State.grantRecs_at]
    split
    · exact .inr (StackRec.grant_settled _)
    · split
      · exact .inr rfl
      · exact .inl rfl
  | release l k holder =>
    exact ⟨(State.ShowChange.release l k holder).preemptionLegal h.1, State.release_overridesHeld holder h⟩
  | _ => exact h

theorem State.ShowChanges.takeoverLegal {s t : State} (run : s.ShowChanges t) (h : s.takeoverLegal) :
    t.takeoverLegal := by
  induction run with
  | refl => exact h
  | tail _ c ih => exact c.takeoverLegal ih

theorem State.Change.takeoverLegal {s t : State} (c : s.Change t) (h : s.takeoverLegal) : t.takeoverLegal := by
  refine ⟨c.preemptionLegal h.1, ?_⟩
  cases c with
  | running c => exact (c.takeoverLegal h).2
  | delete k n =>
    refine State.overridesHeld_same (s := s) ?_ (fun _ _ there => ?_) (State.afterDelete_recs _ k n) h.2
    · rw [State.afterDelete_eq]
    · rw [State.afterDelete_eq]; exact there
  | stackLevel k l free =>
    obtain ⟨rests, -⟩ := (s.levelFree_iff k).1 free
    refine ⟨h.2.1, fun j takeover => ?_⟩
    rw [State.modStack_at] at takeover ⊢
    by_cases same : k = j
    · simp only [if_pos same]
      rcases rests with is | is <;> rw [is] <;> exact ⟨fun _ _ e => (nomatch e), fun _ _ e => (nomatch e)⟩
    · simp only [if_neg same] at takeover ⊢
      exact h.2.2 j takeover
  | restart =>
    exact State.overridesHeld_same (s := s) (.refl _) (fun _ _ => id)
      (fun j => ⟨(s.cue.restart_recs j).1, .inr (s.cue.restart_recs j).2⟩) h.2
  | clear rest =>
    refine ⟨fun e there => (nomatch there), fun k takeover => ?_⟩
    have rests := rest k
    constructor
    · intro n i is; rw [show (s.cue.recs[k]).state = _ from is] at rests; cases rests
    · intro g e is; rw [show (s.cue.recs[k]).state = _ from is] at rests; cases rests
  | safety e l =>
    refine State.overridesHeld_same (s := s) (.refl _) (fun m k there => ?_) (fun _ => ⟨rfl, .inl rfl⟩) h.2
    unfold TakeoverUnit.withSafety
    cases s.takeover.inForce <;> cases e || l
    · exact there
    · exact List.mem_append_left _ there
    · exact List.mem_filter.2 ⟨there, rfl⟩
    · exact there
  | _ => exact h.2

/-! ### The actions of a firing write overrides at the stack's level (R121) -/

theorem State.guardWrite_takeover {s t : State} {writer : Writer} {ws : List ItemWrite} {deferred : Bool}
    (h : s.guardWrite writer ws = .passed t deferred) : t.takeover = s.takeover := by
  obtain ⟨queue, items, kind, -, -, -, rfl⟩ := State.guardWrite_passed h
  rw [State.raiseGuardAlert_keeps]
  exact State.directWrites_keep State.takeover (fun s w => by cases w <;> rfl) _ _

theorem State.actionWrite_takeover (s : State) (k : StackNo) (cue place : Nat) (busy : Bool) (ws : List ItemWrite) :
    (s.actionWrite k cue place busy ws).takeover = s.takeover := by
  unfold State.actionWrite
  split
  · rfl
  · split
    · rfl
    · rfl
    · exact State.guardWrite_takeover ‹_›

theorem State.overrideWrite_overrides {s : State} {k : StackNo} {cue place : Nat} {es : List Override} {e : Override}
    (there : e ∈ (s.overrideWrite k cue place es).takeover.overrides) : e ∈ s.takeover.overrides ∨ e ∈ es := by
  unfold State.overrideWrite at there
  dsimp only at there
  split at there
  · exact .inl there
  · split at there
    · exact .inl there
    · rw [State.raiseGuardAlert_keeps] at there
      exact mem_writeOverrides there

theorem State.act_overrides {s : State} {k : StackNo} {cue place : Nat} {a : Action} {e : Override}
    (there : e ∈ (s.act k cue place a).takeover.overrides) :
    e ∈ s.takeover.overrides ∨ isTakeover (s.cue.recs[k]).level = true ∧ e.level = (s.cue.recs[k]).level := by
  unfold State.act at there
  split at there
  · exact .inl there
  · unfold State.actEffect at there
    cases a with
    | level role first last v d =>
      dsimp only at there
      split at there
      · rename_i takeover
        refine (State.overrideWrite_overrides there).imp_right fun new => ⟨takeover, ?_⟩
        obtain ⟨n, -, rfl⟩ := List.mem_map.1 new
        rfl
      · rw [State.actionWrite_takeover] at there
        exact .inl there
    | window role w v =>
      dsimp only at there
      split at there
      · rename_i takeover
        refine (State.overrideWrite_overrides there).imp_right fun new => ⟨takeover, ?_⟩
        rw [List.mem_singleton.1 new]
      · rw [State.actionWrite_takeover] at there
        exact .inl there
    | master g v =>
      dsimp only at there
      rw [State.actionWrite_takeover] at there
      exact .inl there
    | take n => exact .inl there
    | copy =>
      dsimp only at there
      split at there <;> exact .inl there
    | goStack j => exact .inl there

theorem State.Acted.stackLevel {s t : State} (a : s.Acted t) (j : StackNo) :
    (t.cue.recs[j]).level = (s.cue.recs[j]).level ∧ (t.cue.recs[j]).state = (s.cue.recs[j]).state := by
  obtain ⟨c, n, same⟩ := a.recs j
  rw [same]
  exact ⟨rfl, rfl⟩

theorem State.Acted.stack {s t : State} (a : s.Acted t) : t.takeover.stack = s.takeover.stack := by rw [a.takeover]

theorem State.actAll_overrides {k : StackNo} {cue : Nat} {l : List Action} {s : State} {place : Nat} {e : Override}
    (there : e ∈ (s.actAll k cue place l).takeover.overrides) :
    e ∈ s.takeover.overrides ∨ isTakeover (s.cue.recs[k]).level = true ∧ e.level = (s.cue.recs[k]).level := by
  induction l generalizing s place with
  | nil => exact .inl there
  | cons a l ih =>
    rcases ih there with one | own
    · exact State.act_overrides one
    · rw [((s.act_acted k cue place a).stackLevel k).1] at own
      exact .inr own

/-- The actions of a stack that holds its level leave every override at a level that stands. -/
theorem State.actAll_takeoverLegal {s : State} {k : StackNo} (cue : Nat) (l : List Action) (place : Nat)
    (held : s.holdsLevel k) (h : s.takeoverLegal) : (s.actAll k cue place l).takeoverLegal := by
  have acted := s.actAll_acted k cue l place
  refine ⟨State.preemptionLegal_of acted.stack (by rw [acted.takeover]; rfl) (fun j => (acted.stackLevel j).1) h.1,
    fun e there => ?_, fun j takeover => ?_⟩
  · rw [acted.stack]
    rcases State.actAll_overrides there with old | ⟨takeover, own⟩
    · exact h.2.1 e old
    · rw [own]
      exact ⟨k, held takeover⟩
  · obtain ⟨level, state⟩ := acted.stackLevel j
    rw [level] at takeover ⊢
    rw [state, acted.stack]
    exact h.2.2 j takeover

/-! ### A stack's turn leaves the other stacks their levels -/

/-- What the turn of stack `k` leaves of the other stacks: their levels, their states and their entries. -/
structure State.Beside (k : StackNo) (s t : State) : Prop where
  level : ∀ j, j ≠ k → (t.cue.recs[j]).level = (s.cue.recs[j]).level
  state : ∀ j, j ≠ k → (t.cue.recs[j]).state = (s.cue.recs[j]).state
  entries : ∀ j, j ≠ k → ∀ l, PreEntry.level l j ∈ s.takeover.stack → PreEntry.level l j ∈ t.takeover.stack

theorem State.Beside.refl (k : StackNo) (s : State) : State.Beside k s s :=
  ⟨fun _ _ => rfl, fun _ _ => rfl, fun _ _ _ => id⟩

theorem State.Beside.trans {k : StackNo} {s t u : State} (a : State.Beside k s t) (b : State.Beside k t u) :
    State.Beside k s u :=
  ⟨fun j other => (b.level j other).trans (a.level j other), fun j other => (b.state j other).trans (a.state j other),
    fun j other l there => b.entries j other l (a.entries j other l there)⟩

theorem State.modStack_beside (s : State) (k : StackNo) (f : StackRec → StackRec) : State.Beside k s (s.modStack k f) := by
  have at' : ∀ j, j ≠ k → (s.modStack k f).cue.recs[j] = s.cue.recs[j] := fun j other => by
    rw [State.modStack_at, if_neg (Ne.symm other)]
  exact ⟨fun j other => by rw [at' j other], fun j other => by rw [at' j other], fun _ _ _ => id⟩

theorem State.Acted.beside {s t : State} (a : s.Acted t) (k : StackNo) : State.Beside k s t :=
  ⟨fun j _ => (a.stackLevel j).1, fun j _ => (a.stackLevel j).2, fun _ _ _ there => by rw [a.stack]; exact there⟩

theorem State.raiseTo_beside (s : State) (k : StackNo) (d : PortSet) (a : Alert) : State.Beside k s (s.raiseTo d a) :=
  (s.raiseTo_acted d a).beside k

theorem State.loopAlerted_acted (s : State) (k : StackNo) (q : Cue) : s.Acted (s.loopAlerted k q) := by
  rcases s.loopAlerted_eq k q with same | ⟨d, a, raised⟩
  · rw [same]; exact .refl s
  · rw [raised]; exact s.raiseTo_acted d a

theorem State.advanced_beside (s : State) (k : StackNo) (q : Cue) : State.Beside k s (s.advanced k q) :=
  ((s.loopAlerted_acted k q).beside k).trans (State.modStack_beside _ k _)

theorem State.advanced_takeover (s : State) (k : StackNo) (q : Cue) : (s.advanced k q).takeover = s.takeover := by
  show (s.loopAlerted k q).takeover = _
  rcases s.loopAlerted_eq k q with same | ⟨d, a, raised⟩
  · rw [same]
  · rw [raised]; rfl

/-- The last firing of a stack that holds its level releases that level at most. -/
theorem State.lastFiring_beside {s : State} {k : StackNo} (q : Cue) (held : s.holdsLevel k) (h : s.takeoverLegal) :
    State.Beside k s (s.lastFiring k q) := by
  have advanced := s.advanced_beside k q
  rw [State.lastFiring_eq]
  split
  · rename_i releases
    have there := held (Bool.and_eq_true_iff.1 releases).1
    rw [s.advanced_takeover, h.1.holder there]
    refine advanced.trans ⟨fun j other => ((s.advanced k q).modStack_beside k _).level j other,
      fun j other => ((s.advanced k q).modStack_beside k _).state j other, fun j other l entry => ?_⟩
    refine List.mem_filter.2 ⟨entry, ?_⟩
    rw [Bool.not_eq_true']
    by_contra same
    rw [s.advanced_takeover] at entry
    have eq : l = (s.cue.recs[k]).level := by simpa [PreEntry.isLevel] using same
    rw [eq] at entry
    exact other (h.1.unique entry there)
  · exact advanced

/-- A firing of a stack that holds its level keeps the laws of the takeovers, and leaves the other stacks theirs. -/
theorem State.fire_takeoverLegal {s : State} {k : StackNo} (again : Option Nat) (held : s.holdsLevel k)
    (h : s.takeoverLegal) : (s.fire k again).takeoverLegal ∧ State.Beside k s (s.fire k again) := by
  cases stands : (s.cue.recs[k]).position.bind fun n => s.cue.find k n with
  | none =>
    rw [State.fire_of_none stands]
    exact ⟨h, .refl k s⟩
  | some q =>
    obtain ⟨n, position, found⟩ := Option.bind_eq_some_iff.1 stands
    have acted := State.actAll_acted k q.number q.body.actions s 1
    have legal := State.actAll_takeoverLegal q.number q.body.actions 1 held h
    have held' : (s.actAll k q.number 1 q.body.actions).holdsLevel k := by
      unfold State.holdsLevel
      rw [(acted.stackLevel k).1, acted.stack]
      exact held
    rw [State.fire_of_some stands]
    split
    · refine ⟨(State.lastFiring_changes _ k q ?_).takeoverLegal legal,
        (acted.beside k).trans (State.lastFiring_beside q held' legal)⟩
      rw [CueUnit.find, acted.store, (CueUnit.find_some found).2.2]
      exact Option.isSome_of_eq_some found
    · refine ⟨State.takeoverLegal_modStack legal rfl fun takeover => ⟨fun _ _ _ => held' takeover, fun _ _ e => nomatch e⟩,
        (acted.beside k).trans (State.modStack_beside _ k _)⟩

/-! ### The turns of a MARK -/

/-- A stack that holds its level, where it has one, or that has nothing to do in its turn. -/
def State.turnReady (s : State) (k : StackNo) : Prop :=
  s.holdsLevel k ∨ (s.cue.recs[k]).state = .idle ∨ (s.cue.recs[k]).state = .ended

theorem State.Beside.turnReady {k j : StackNo} {s t : State} (beside : State.Beside k s t) (other : j ≠ k)
    (h : s.turnReady j) : t.turnReady j := by
  unfold State.turnReady State.holdsLevel at *
  rw [beside.level j other, beside.state j other]
  exact h.imp_left fun held takeover => beside.entries j other _ (held takeover)

theorem State.stackActs_takeoverLegal {s : State} {k : StackNo} (ready : s.turnReady k) (h : s.takeoverLegal) :
    (s.stackActs k).takeoverLegal ∧ State.Beside k s (s.stackActs k) := by
  rcases ready with held | rests
  · unfold State.stackActs
    cases state : (s.cue.recs[k]).state with
    | idle => exact ⟨h, .refl k s⟩
    | ended => exact ⟨h, .refl k s⟩
    | waiting n =>
      cases n with
      | zero => exact State.fire_takeoverLegal none held h
      | succ n =>
        exact ⟨State.takeoverLegal_modStack h rfl fun _ => ⟨fun _ _ e => (nomatch e), fun _ _ e => (nomatch e)⟩,
          s.modStack_beside k _⟩
    | repeating r i =>
      cases i with
      | zero => exact State.fire_takeoverLegal (some r) held h
      | succ i =>
        exact ⟨State.takeoverLegal_modStack h rfl fun takeover => ⟨fun _ _ _ => held takeover, fun _ _ e => (nomatch e)⟩,
          s.modStack_beside k _⟩
    | armed f g =>
      show (s.decideArm k f g).takeoverLegal ∧ State.Beside k s (s.decideArm k f g)
      unfold State.decideArm
      dsimp only
      split
      · exact State.fire_takeoverLegal none held h
      · split
        · obtain ⟨legal, beside⟩ := State.fire_takeoverLegal (s := s.raiseStack k _) none held
            ((State.raiseTo_changes _ _ _).takeoverLegal h)
          exact ⟨legal, (s.raiseTo_beside k _ _).trans beside⟩
        · split
          · refine ⟨(State.raiseTo_changes _ _ _).takeoverLegal (State.takeoverLegal_modStack h rfl fun _ =>
              ⟨fun _ _ e => (nomatch e), fun _ _ e => (nomatch e)⟩), (s.modStack_beside k _).trans (State.raiseTo_beside _ k _ _)⟩
          · exact ⟨h, .refl k s⟩
  · have still : s.stackActs k = s := by
      unfold State.stackActs
      rcases rests with is | is <;> rw [is]
    rw [still]
    exact ⟨h, .refl k s⟩

theorem State.applyDeferred_keeps (s : State) :
    s.applyDeferred.cue = s.cue ∧ s.applyDeferred.takeover = s.takeover := by
  have writes : ∀ (l : List (Deferred × DeferCause)) (s : State),
      (l.foldl (fun s x => s.writeItem x.1.write) s).cue = s.cue ∧
        (l.foldl (fun s x => s.writeItem x.1.write) s).takeover = s.takeover := by
    intro l
    induction l with
    | nil => exact fun s => ⟨rfl, rfl⟩
    | cons x l ih =>
      intro s
      obtain ⟨cue, takeover⟩ := ih (s.writeItem x.1.write)
      exact ⟨cue.trans (by cases x.1.write <;> rfl), takeover.trans (by cases x.1.write <;> rfl)⟩
  unfold State.applyDeferred
  dsimp only
  rw [State.raiseTogether_cue, State.raiseTogether_takeover]
  exact writes _ s

/-- The turns of a MARK keep the laws of the takeovers, where each stack that acts holds its level. -/
theorem State.markTasks_takeoverLegal (l : List MarkTask) (once : l.Nodup) {s : State}
    (ready : ∀ k, .stack k ∈ l → s.turnReady k) (h : s.takeoverLegal) : (l.foldl State.markTask s).takeoverLegal := by
  induction l generalizing s with
  | nil => exact h
  | cons x l ih =>
    obtain ⟨fresh, rest⟩ := List.nodup_cons.1 once
    rw [List.foldl_cons]
    cases x with
    | stack k =>
      obtain ⟨legal, beside⟩ := State.stackActs_takeoverLegal (ready k List.mem_cons_self) h
      refine ih rest (fun j there => beside.turnReady (fun same => fresh (same ▸ there)) ?_) legal
      exact ready j (List.mem_cons_of_mem _ there)
    | apply =>
      obtain ⟨cue, takeover⟩ := s.applyDeferred_keeps
      refine ih rest (fun j there => ?_) (s.applyDeferred_changes.takeoverLegal h)
      show s.applyDeferred.turnReady j
      unfold State.turnReady State.holdsLevel
      rw [cue, takeover]
      exact ready j (List.mem_cons_of_mem _ there)

theorem State.grant_fields (s : State) :
    s.grant.cue.recs = (s.grantee.elim s.cue.recs s.grantRecs) ∧
      s.grant.takeover.stack = (s.grantee.elim s.takeover.stack s.grantEntries) := by
  unfold State.grant
  cases s.grantee with
  | none => exact ⟨rfl, rfl⟩
  | some k =>
    dsimp only [Option.elim]
    unfold State.grantEntries
    cases s.takeover.onTop k <;> exact ⟨rfl, rfl⟩

/-- After the grant, a stack that the mask did not suspend before holds its level, or has nothing to do in its turn: one
that was WAITING for its level has it or has lost (R118). -/
theorem State.grant_turnReady {s : State} {k : StackNo} (free : s.takeover.suspends k (s.cue.recs[k]).level = false)
    (h : s.takeoverLegal) : s.grant.turnReady k := by
  obtain ⟨recs, stack⟩ := s.grant_fields
  unfold State.turnReady State.holdsLevel
  rw [recs, stack]
  by_cases takeover : isTakeover (s.cue.recs[k]).level = true
  · have holdsOf (holds : s.takeover.holds k = true) : PreEntry.level (s.cue.recs[k]).level k ∈ s.takeover.stack := by
      obtain ⟨l, there⟩ := (s.takeover.holds_iff k).1 holds
      rw [← h.1.level there]
      exact there
    have waits : s.presented k = false → PreEntry.level (s.cue.recs[k]).level k ∈ s.takeover.stack ∨
        (s.cue.recs[k]).state = .idle ∨ (s.cue.recs[k]).state = .ended := fun absent => by
      cases state : (s.cue.recs[k]).state with
      | idle => exact .inr (.inl rfl)
      | ended => exact .inr (.inr rfl)
      | armed f g => exact absurd state ((h.2.2 k takeover).2 f g)
      | repeating n i => exact .inl ((h.2.2 k takeover).1 n i state)
      | waiting n =>
        refine .inl (holdsOf (eq_true_of_ne_false fun holds => ?_))
        rw [(s.presented_iff k).2 ⟨takeover, holds, free, n, state⟩] at absent
        cases absent
    cases chosen : s.grantee with
    | none =>
      have absent := (Bool.or_eq_false_iff.1 (s.grantee_spec.2 chosen k)).1
      exact (waits absent).imp_left fun there _ => there
    | some g =>
      dsimp only [Option.elim]
      rw [State.grantRecs_at]
      split
      · rename_i same
        subst same
        refine .inl fun _ => ?_
        show PreEntry.level (s.cue.recs[k]).level k ∈ _
        unfold State.grantEntries
        split
        · rename_i top
          exact holdsOf (TakeoverUnit.holds_of_onTop top)
        · exact List.mem_append_right _ (List.mem_singleton_self _)
      · split
        · exact .inr (.inl rfl)
        · rename_i absent
          exact (waits (eq_false_of_ne_true absent)).imp_left fun there _ => State.mem_grantEntries g there
  · have level : ((s.grantee.elim s.cue.recs s.grantRecs)[k]).level = (s.cue.recs[k]).level := by
      cases s.grantee with
      | none => rfl
      | some g => exact s.grantRecs_level g k
    rw [level]
    exact .inl fun is => absurd is takeover

theorem markTasks_nodup (free : StackNo → Bool) : (markTasks free).Nodup := by
  unfold markTasks
  refine List.nodup_append.2 ⟨?_, List.nodup_singleton _, fun a there b last => ?_⟩
  · exact ((List.nodup_finRange 8).filter _).map fun a b same => by injection same
  · obtain ⟨k, -, rfl⟩ := List.mem_map.1 there
    rw [List.mem_singleton.1 last]
    exact fun same => nomatch same

theorem mem_markTasks {free : StackNo → Bool} {k : StackNo} : .stack k ∈ markTasks free ↔ free k = true := by
  simp [markTasks]

theorem State.markStart_free (s : State) (k : StackNo) :
    s.markStart.free k = !s.takeAllChained.takeover.suspends k (s.takeAllChained.cue.recs[k]).level := by
  simp only [State.markStart]

theorem State.markSteps_takeoverLegal {s : State} (order : List Nat) (h : s.takeoverLegal) :
    (s.markSteps order).takeoverLegal := by
  have chained := s.takeAllChained_changes.takeoverLegal h
  have perm := arrange_perm order (markTasks s.markStart.free)
  rw [State.markSteps_eq, State.markStart_granted]
  refine State.markTasks_takeoverLegal _ (perm.nodup_iff.2 (markTasks_nodup _)) (fun k there => ?_)
    ((State.grant_changes _).takeoverLegal chained)
  have free := mem_markTasks.1 (perm.mem_iff.1 there)
  rw [State.markStart_free, Bool.not_eq_true'] at free
  exact State.grant_turnReady free chained

theorem takeover_invariant : Invariant State.takeoverLegal where
  change _ _ c h := c.takeoverLegal h
  mark _ order h := State.markSteps_takeoverLegal order h
  ports _ _ h := h
  load s _ := by
    obtain ⟨b, good, eq, -⟩ := s.load_loaded
    rw [eq]
    refine ⟨s.boot_preemptionLegal b good, fun e there => (nomatch there), fun k _ => ?_⟩
    have rests : ((s.boot b good).cue.recs[k]).state.settled = true := (CueUnit.restart_recs _ k).2
    constructor
    · intro n i is; rw [is] at rests; cases rests
    · intro f g is; rw [is] at rests; cases rests

/-- Settles O44: a grant pushes a level above the mask, a release takes a level with its overrides away, and a takeover
stack acts in a MARK only while it holds its level. -/
theorem preemptionStaysInOrder : Obligations.PreemptionStaysInOrder :=
  fun _ _ h stepped => ⟨preemption_invariant.step (fun _ _ h => h) stepped h,
    fun held => (takeover_invariant.step (fun _ _ h => h) stepped ⟨h, held⟩).2⟩

end Sys2Proof.Machine
end

section
/-! PROOF. What raising an alert does, and what a hard reset leaves. -/

namespace Sys2Proof.Machine

/-! ### Raising an alert (R182) -/

/-- The entry of a kind after one more occurrence. -/
def AlertEntry.more (a : Alert) (e : Option AlertEntry) : AlertEntry :=
  ⟨a, match e with
    | some e => satSucc 255 e.count
    | none => 1⟩

theorem PortState.receive_alerts (x : PortState) (a : Alert) (k : Fin 22) :
    (x.receive a).alerts[k] = if k = a.kind then some (AlertEntry.more a x.alerts[k]) else x.alerts[k] := by
  have at' : (x.receive a).alerts[k] =
      if a.kind.val = k.val then some (AlertEntry.more a x.alerts[a.kind]) else x.alerts[k] :=
    updAt_getElem x.alerts a.kind _ k.val k.isLt
  rw [at']
  by_cases h : k = a.kind
  · rw [if_pos h, if_pos (congrArg Fin.val h.symm), h]
  · rw [if_neg h, if_neg (fun e => h (Fin.ext e.symm))]

theorem PortState.alertLine_iff (x : PortState) : x.alertLine = true ↔ ∃ k : Fin 22, (x.alerts[k]).isSome = true := by
  unfold alertLine
  rw [List.any_eq_true]
  constructor
  · rintro ⟨e, there, is⟩
    obtain ⟨i, lt, same⟩ := List.mem_iff_getElem.1 there
    refine ⟨⟨i, by simpa using lt⟩, ?_⟩
    simpa [← same] using is
  · rintro ⟨k, is⟩
    exact ⟨_, by simp, is⟩

theorem PortState.receive_alertLine (x : PortState) (a : Alert) : (x.receive a).alertLine = true := by
  rw [PortState.alertLine_iff]
  exact ⟨a.kind, by rw [PortState.receive_alerts, if_pos rfl]; rfl⟩

/-- Settles O12: each port of the set receives the alert, and no other. -/
theorem alertsEnterTheSets : Obligations.AlertsEnterTheSets := by
  intro s d a
  refine ⟨rfl, fun q out => ?_, fun q into k => ?_, fun q into => ?_⟩
  · rw [State.raiseTo_at, if_neg (ne_true_of_eq_false out)]
  · rw [State.raiseTo_at, if_pos into, PortState.receive_alerts]
    by_cases same : k = a.kind
    · rw [if_pos same, if_pos same]
      cases (s.ports.port[q]).alerts[k] <;> rfl
    · rw [if_neg same, if_neg same]
  · rw [State.raiseTo_at, if_pos into]
    exact ⟨PortState.receive_alertLine _ a, rfl⟩

theorem PortState.startNotice_rate (x : PortState) (now : Frame) : (x.startNotice now).rate = x.rate := by
  unfold startNotice
  split <;> rfl

theorem PortState.startNotice_alerts (x : PortState) (now : Frame) : (x.startNotice now).alerts = x.alerts := by
  unfold startNotice
  split <;> rfl

theorem State.startNotices_alerts (s : State) (q : Port) :
    (s.startNotices.ports.port[q]).alerts = (s.ports.port[q]).alerts := by
  rw [State.startNotices_at, PortState.startNotice_alerts]

/-- An alert raised to a set of ports stands in the alert set of each of them. -/
theorem State.raiseTo_isSome (s : State) {d : PortSet} {a : Alert} {q : Port} (into : d.getLsbD q.val = true) :
    (((s.raiseTo d a).ports.port[q]).alerts[a.kind]).isSome = true := by
  rw [State.raiseTo_at, if_pos into, PortState.receive_alerts, if_pos rfl]
  rfl

/-! ### The state after a hard reset (R202, R203) -/

theorem mapTab_replicate {α β : Type} {n : Nat} (f : α → β) (a : α) :
    mapTab f (Vector.replicate n a) = Vector.replicate n (f a) := by
  apply Vector.ext
  intro i lt
  simp

theorem mapTab_eq {α β : Type} {n : Nat} {f : α → β} {v : Vector α n} {w : Vector β n}
    (h : ∀ i : Fin n, f v[i] = w[i]) : mapTab f v = w := by
  apply Vector.ext
  intro i lt
  simpa using h ⟨i, lt⟩

theorem CueUnit.restart_empty (recs : Vector StackRec 8) (grace : Nat) :
    CueUnit.restart { store := [], recs := recs, lateGrace := grace } =
      { store := [], recs := mapTab (fun r => StackRec.start r.level) recs, lateGrace := grace } := rfl

/-- With no good image, a hard reset leaves the reset state but for the stored image and the model's own fields. -/
theorem State.boot_defaults (s : State) : s.boot .defaults false = { State.reset with
    image := { stored := s.image.stored, valid := false, loaded := false, saving := none }
    choices := s.choices
    pending := s.pending } := by
  have sources : mapTab SourcePort.start (Vector.replicate 4 25) = Vector.replicate 4 (.start 25) := mapTab_replicate _ _
  have lines : mapTab (fun l : Bool × Nat × Nat => Line.start l.1 l.2.1 l.2.2) (Vector.replicate 8 (false, 512, 176)) =
      Vector.replicate 8 (.start false 512 176) := mapTab_replicate _ _
  have recs : mapTab (fun r => StackRec.start r.level) (mapTab StackRec.start (Vector.replicate 8 1)) =
      Vector.replicate 8 (.start 1) := by rw [mapTab_replicate, mapTab_replicate]; rfl
  have ports : mapTab PortState.start (Vector.replicate 4 LineRate.r115200) =
      Vector.replicate 4 (.start .r115200) := mapTab_replicate _ _
  unfold State.boot
  simp only [ImageBody.defaults, sources, lines, ports, CueUnit.restart_empty, recs]
  rfl

theorem State.boot_port (s : State) (b : ImageBody) (good : Bool) (q : Port) :
    (s.boot b good).ports.port[q] = PortState.start b.rates[q] := by simp [State.boot]

theorem State.boot_quiet (s : State) (b : ImageBody) (good : Bool) : (s.boot b good).quiet := fun q _ => by
  rw [State.boot_port]; rfl

/-- The body that a state would save is the one that it loaded, with an ENGINEERING port made sure of. -/
theorem State.boot_snapshot (s : State) (b : ImageBody) (good : Bool) :
    (s.boot b good).snapshot = { b with roles := withEngineer b.roles } := by
  have lines : mapTab (fun l : Line => (l.enabled, l.slots, l.breakLen)) (s.boot b good).lines = b.lines :=
    mapTab_eq fun i => by simp [State.boot, Line.start]
  have holds : mapTab SourcePort.holdLimit (s.boot b good).wall.sources = b.holdLimits :=
    mapTab_eq fun i => by simp [State.boot, SourcePort.start]
  have rates : mapTab PortState.rate (s.boot b good).ports.port = b.rates :=
    mapTab_eq fun i => by rw [State.boot_port]; rfl
  have levels : mapTab StackRec.level (s.boot b good).cue.recs = b.levels :=
    mapTab_eq fun i => by
      refine (CueUnit.restart_recs _ i).1.trans ?_
      simp [StackRec.start]
  unfold State.snapshot
  rw [lines, holds, rates, levels]
  rfl

/-- The saved body looks at the rates of the ports, and at no other part of them. -/
theorem State.snapshot_ports {s t : State} (same : t = { s with ports := t.ports })
    (routing : t.ports.routing = s.ports.routing)
    (rates : ∀ q : Port, (t.ports.port[q]).rate = (s.ports.port[q]).rate) : t.snapshot = s.snapshot := by
  have ports : mapTab PortState.rate t.ports.port = mapTab PortState.rate s.ports.port :=
    mapTab_eq fun q => by rw [rates q]; simp
  unfold State.snapshot
  rw [ports, routing, same]


/-- A booted state with the emergency input asserted, before its alerts. -/
def State.inSafety (s : State) : State :=
  { s with takeover := { s.takeover with emergency := true, stack := [.safety] } }

theorem State.hardReset_eq (s : State) (b : ImageBody) (good emergency : Bool) (loads : s.load = s.boot b good) :
    exec (.hardReset emergency) s = .next (if emergency then (s.boot b good).inSafety.raiseSafety.startNotices
      else s.boot b good) := by
  show execHardReset emergency s = _
  unfold execHardReset
  rw [loads]
  cases emergency with
  | false =>
    have still : (s.boot b good).setSafety false false = s.boot b good := rfl
    rw [still, State.done_of_quiet (s.boot_quiet b good)]
    rfl
  | true => rfl

/-- Settles O59: the loaded body is what the part would save again, and safety stands where the input says so. -/
theorem hardResetLoadsTheImage : Obligations.HardResetLoadsTheImage := by
  intro s emergency
  constructor
  · intro b stored
    have loads : s.load = s.boot b true := by
      unfold State.load
      rw [stored]
    refine ⟨_, s.hardReset_eq b true emergency loads, ?_⟩
    have free : ∀ id : ClaimId, (s.boot b true).access.claims[id] = none := fun id => by simp [State.boot]
    cases emergency with
    | false =>
      exact ⟨s.boot_snapshot b true, withEngineer_has b.roles, rfl, rfl, rfl, rfl, rfl, rfl, rfl, rfl, rfl, free⟩
    | true =>
      refine ⟨?_, withEngineer_has b.roles, rfl, rfl, rfl, rfl, rfl, rfl, rfl, rfl, rfl, free⟩
      rw [← s.boot_snapshot b true]
      show ((s.boot b true).inSafety.raiseSafety.startNotices).snapshot = (s.boot b true).inSafety.snapshot
      refine State.snapshot_ports rfl rfl fun q => ?_
      rw [State.startNotices_at, PortState.startNotice_rate]
      show ((State.raiseTo _ _ _).ports.port[q]).rate = _
      rw [State.raiseTo_at]
      split
      · exact (PortState.receive_keeps _ _).1
      · rfl
  · intro none
    have loads : s.load = s.boot .defaults false := by
      unfold State.load
      rw [none]
    refine ⟨?_, _, s.hardReset_eq .defaults false true loads, ?_⟩
    · rw [s.hardReset_eq .defaults false false loads, ← s.boot_defaults]
      rfl
    · rw [if_pos rfl, State.boot_defaults]
      refine ⟨rfl, ?_, rfl, rfl⟩
      show ((State.startNotices _).ports.port[(0 : Port)]).alerts[(18 : Fin 22)].isSome = true
      rw [State.startNotices_alerts]
      have into : ((Vector.replicate 16 (1 : PortSet))[(14 : Fin 16)]).getLsbD 0 = true := by simp
      exact State.raiseTo_isSome _ (q := 0) (a := .safetyChange _ _ _ _) into

/-- Settles O60: the reset state is the one that a hard reset with no good image leaves. -/
theorem resetIsLawful : Obligations.ResetIsLawful := by
  have reset : State.reset.boot .defaults false = State.reset := State.reset.boot_defaults
  have cue := State.reset.boot_cueLegal false ImageBody.defaults_loaded
  have patch := State.reset.boot_patchLegal false ImageBody.defaults_loaded
  have preemption := State.reset.boot_preemptionLegal .defaults false
  rw [reset] at cue patch preemption
  have port : ∀ q : Port, State.reset.ports.port[q] = PortState.start .r115200 := fun q => by simp [State.reset]
  have free : ∀ id : ClaimId, State.reset.access.claims[id] = none := fun id => by simp [State.reset]
  have rests : ∀ k : StackNo, State.reset.cue.recs[k] = StackRec.start 1 := fun k => by simp [State.reset]
  refine ⟨fun q => ?_, ?_, patch, cue.1, cue.2, preemption, ⟨fun e there => (nomatch there), fun k takeover => ?_⟩, ?_, ?_,
    ⟨fun i j c d _ used => ?_, fun i c w used => ?_⟩, ⟨0, rfl⟩⟩
  · unfold State.ready
    rw [port q]
    exact ⟨fun _ => ⟨rfl, rfl, rfl, rfl⟩, Nat.zero_le _, Nat.zero_le _⟩
  · exact ⟨fun locked => (nomatch locked), fun _ => ⟨rfl, Nat.zero_le _⟩⟩
  · rw [rests k] at takeover
    cases takeover
  · exact ⟨Nat.zero_le _, .nil, fun _ there => nomatch there⟩
  · exact ⟨Nat.zero_le _, .nil⟩
  · rw [free i] at used; cases used
  · rw [free i] at used; cases used

end Sys2Proof.Machine
end

section
/-! PROOF. Requests on a ready port: the fields of a payload that decode, and the requests of the wall, the shot map,
the routes, the counter and the image. -/

namespace Sys2Proof.Machine

/-! ### Fields that decode -/

theorem index_of_lt {n x : Nat} (i : Fin n) (same : x = i.val) : index n x = .ok i := by
  subst same
  simp [index]

theorem toNat_ofNat_fin {n : Nat} (small : n ≤ 256) (i : Fin n) : (BitVec.ofNat 8 i.val).toNat = i.val := by
  rw [BitVec.toNat_ofNat]
  exact Nat.mod_eq_of_lt (by omega)

/-- The byte that carries the number of an item names that item. -/
theorem index_ofNat {n : Nat} (small : n ≤ 256) (i : Fin n) : index n (BitVec.ofNat 8 i.val).toNat = .ok i :=
  index_of_lt i (toNat_ofNat_fin small i)

theorem both_of_ok {α β : Type} {x : Except ReplyCode α} {y : Except ReplyCode β} {a : α} {b : β} (hx : x = .ok a)
    (hy : y = .ok b) : both x y = .ok (a, b) := by rw [hx, hy]; rfl

theorem needFormat_of {c : Bool} (h : c = true) : needFormat c = .ok () := by rw [h]; rfl

theorem needRange_of {c : Bool} (h : c = true) : needRange c = .ok () := by rw [h]; rfl

theorem orFormat_of {α : Type} {x : Option α} {a : α} (h : x = some a) : orFormat x = .ok a := by rw [h]; rfl

theorem withFields_of {α : Type} {s : State} {x : Except ReplyCode α} {a : α} (h : x = .ok a) (f : α → Answer) :
    withFields s x f = f a := by rw [h]; rfl

/-- A field that its presence bit says is absent stands at 0 (12.4). -/
theorem present_or_zero {present : Bool} {l : List Byte} (off : present = false → allZero l = true) :
    (present || allZero l) = true := by
  cases present with
  | false => exact off rfl
  | true => rfl

/-- A coded field under a presence bit reads as its value, or as none. -/
theorem optionalField_of {α : Type} {present : Bool} {read x : Option α} {b : Byte}
    (on : present = true → x.isSome = true ∧ read = x) (off : present = false → b = 0 ∧ x = none) :
    (if present then (orFormat read).map some else (needFormat (allZero [b])).map fun _ => none) = .ok x := by
  cases present with
  | false =>
    obtain ⟨zero, none⟩ := off rfl
    rw [zero, none]
    rfl
  | true =>
    obtain ⟨some, same⟩ := on rfl
    obtain ⟨a, is⟩ := Option.isSome_iff_exists.1 some
    rw [same, is]
    rfl

theorem clampNat_eq {lo hi : Nat} (h : lo ≤ hi) (x : Nat) : clampNat lo hi x = max lo (min hi x) := by
  unfold clampNat
  split
  · omega
  · split <;> omega

theorem clampNat_zero (hi x : Nat) : clampNat 0 hi x = min hi x := by
  rw [clampNat_eq (Nat.zero_le hi), Nat.zero_max]

theorem be16_le (h l : Byte) : be16 h l ≤ 65535 := by
  unfold be16
  have := h.isLt
  have := l.isLt
  omega

/-! ### A request on a ready port -/

section
variable {s t : State} {p : Port} {code tag : Byte} {payload : List Byte} {result : ReplyCode} {data : List Byte}

/-- An ENGINEERING port's request that stands under no lock and names no item goes to its block (R136, R139, R142). -/
theorem State.answer_engineer (known : knownCode code = true) (engineer : s.access.roles[p] = .engineering)
    (lock : s.access.lockedOut code = false) (items : s.itemsNamed p code payload = []) :
    s.answer p code payload = takeByCode p code payload s :=
  State.answer_passes known (fun _ => engineer) lock (by simp [items])

/-- A request that leaves no notice owed leaves its reply alone beside its own effect. -/
theorem State.request_next (ready : s.ready p) (quiet : t.quiet) (fits : payload.length ≤ 1020)
    (answer : s.answer p code payload = ⟨result, data, t⟩) :
    (s.request code ⟨p, tag, payload⟩).done = .next (t.replied p code tag result s.ref.counter data) :=
  State.request_done (r := ⟨p, tag, payload⟩) ready fits code answer quiet

/-- A request that may owe notices leaves its reply, and then the notices start. -/
theorem State.request_notices (ready : s.ready p) (fits : payload.length ≤ 1020)
    (answer : s.answer p code payload = ⟨result, data, t⟩) :
    (s.request code ⟨p, tag, payload⟩).done = .next (t.replied p code tag result s.ref.counter data).startNotices :=
  State.request_done_notices (r := ⟨p, tag, payload⟩) ready fits code answer

end

/-! ### The wall and the shot map -/

theorem takeSetSource_ok (s : State) (q : SourceNo) (h1 h0 : Byte) :
    takeSetSource [BitVec.ofNat 8 q.val, h1, h0] s = okay { s with wall := { s.wall with
      sources := updAt s.wall.sources q fun x => { x with holdLimit := min 255 (be16 h1 h0) } } } := by
  simp only [takeSetSource, withFields_of (index_ofNat (by decide) q), clampNat_zero]

theorem takeSetTransition_ok (s : State) (n : SetNo) {pres d1 d0 c : Byte} {curve : Option Curve} (some : 1 ≤ pres.toNat)
    (below : pres.toNat < 4) (duration : pres.getLsbD 0 = false → d1 = 0 ∧ d0 = 0)
    (on : pres.getLsbD 1 = true → curve.isSome = true ∧ curve? c = curve)
    (off : pres.getLsbD 1 = false → c = 0 ∧ curve = none) :
    takeSetTransition [BitVec.ofNat 8 n.val, pres, d1, d0, c] s = okay { s with wall := { s.wall with
      sets := updAt s.wall.sets n fun x =>
        { duration := if pres.getLsbD 0 then max 1 (min 255 (be16 d1 d0)) else x.duration
          curve := curve.getD x.curve } } } := by
  have reserved : (decide (1 ≤ pres.toNat ∧ pres.toNat < 4) && (pres.getLsbD 0 || allZero [d1, d0])) = true := by
    rw [decide_eq_true ⟨some, below⟩, present_or_zero fun absent => by simp [allZero, duration absent]]
    rfl
  have fields := both_of_ok (both_of_ok (needFormat_of reserved) (optionalField_of on off)) (index_ofNat (by decide) n)
  simp only [takeSetTransition, withFields_of fields, clampNat_eq (by decide : 1 ≤ 255)]

theorem takeSetWallLink_ok (s : State) (n : LinkNo) {pres x1 x0 y1 y0 w1 w0 h1 h0 b1 b0 en : Byte} {on : Option Bool}
    (some : 1 ≤ pres.toNat) (below : pres.toNat < 8)
    (rect : pres.getLsbD 0 = false → x1 = 0 ∧ x0 = 0 ∧ y1 = 0 ∧ y0 = 0 ∧ w1 = 0 ∧ w0 = 0 ∧ h1 = 0 ∧ h0 = 0)
    (brightness : pres.getLsbD 1 = false → b1 = 0 ∧ b0 = 0)
    (flag : pres.getLsbD 2 = true → on.isSome = true ∧ flag? en = on)
    (noFlag : pres.getLsbD 2 = false → en = 0 ∧ on = none) :
    takeSetWallLink [BitVec.ofNat 8 n.val, pres, x1, x0, y1, y0, w1, w0, h1, h0, b1, b0, en] s =
      okay { s with wall := { s.wall with links := updAt s.wall.links n fun k =>
        { x := if pres.getLsbD 0 then min 7679 (be16 x1 x0) else k.x
          y := if pres.getLsbD 0 then min 2159 (be16 y1 y0) else k.y
          width := if pres.getLsbD 0 then max 1 (min (7680 - min 7679 (be16 x1 x0)) (be16 w1 w0)) else k.width
          height := if pres.getLsbD 0 then max 1 (min (2160 - min 2159 (be16 y1 y0)) (be16 h1 h0)) else k.height
          brightness := if pres.getLsbD 1 then min 256 (be16 b1 b0) else k.brightness
          enabled := on.getD k.enabled } } } := by
  have reserved : (decide (1 ≤ pres.toNat ∧ pres.toNat < 8)
      && (pres.getLsbD 0 || allZero [x1, x0, y1, y0, w1, w0, h1, h0]) && (pres.getLsbD 1 || allZero [b1, b0])) = true := by
    rw [decide_eq_true ⟨some, below⟩, present_or_zero fun absent => by simp [allZero, rect absent],
      present_or_zero fun absent => by simp [allZero, brightness absent]]
    rfl
  have fields := both_of_ok (both_of_ok (needFormat_of reserved) (optionalField_of flag noFlag))
    (index_ofNat (by decide) n)
  simp only [takeSetWallLink, withFields_of fields, clampNat_zero]
  congr 5
  funext k
  have wide (x : Nat) : 1 ≤ 7680 - min 7679 x := by omega
  have high (y : Nat) : 1 ≤ 2160 - min 2159 y := by omega
  cases pres.getLsbD 0 <;> cases pres.getLsbD 1 <;>
    simp [WallLink.setRect, clampNat_zero, clampNat_eq (wide _), clampNat_eq (high _)]

theorem takeSetShotMap_ok (s : State) (i : TallyNo) (w3 w2 w1 w0 g1 g0 : Byte) :
    takeSetShotMap [BitVec.ofNat 8 i.val, w3, w2, w1, w0, g1, g0] s = okay { s with tally := { s.tally with
      shotMap := s.tally.shotMap.set i ⟨be32 w3 w2 w1 w0, BitVec.ofNat 16 (be16 g1 g0)⟩ } } := by
  simp only [takeSetShotMap, withFields_of (index_ofNat (by decide) i)]

/-- The state after one guard mode for a set of windows (R158). -/
def State.guardWindows (s : State) (set : WindowSet) (g : Guard) : State :=
  { s with tally := { s.tally with
    windowGuards := tab fun w => if set.getLsbD w.val then g else s.tally.windowGuards[w] } }

/-- The state after one guard mode for a set of groups, in the low half of the request's set (R158). -/
def State.guardGroups (s : State) (set : BitVec 32) (g : Guard) : State :=
  { s with tally := { s.tally with
    groupGuards := tab fun w => if set.getLsbD w.val then g else s.tally.groupGuards[w] } }

theorem takeSetGuard_windows (s : State) {m3 m2 m1 m0 mode : Byte} {g : Guard} (named : be32 m3 m2 m1 m0 ≠ 0)
    (coded : guard? mode = some g) :
    takeSetGuard [0, m3, m2, m1, m0, mode] s = okay (s.guardWindows (be32 m3 m2 m1 m0) g) := by
  simp only [takeSetGuard, coded, named, if_false, if_true, State.guardWindows]

theorem takeSetGuard_groups (s : State) {m1 m0 mode : Byte} {g : Guard} (named : be32 0 0 m1 m0 ≠ 0)
    (coded : guard? mode = some g) :
    takeSetGuard [1, 0, 0, m1, m0, mode] s = okay (s.guardGroups (be32 0 0 m1 m0) g) := by
  have low : (be32 0 0 m1 m0).toNat < 65536 := by
    have h1 := m1.isLt
    have h0 := m0.isLt
    have zero : (0 : Byte).toNat = 0 := rfl
    simp only [be32, BitVec.toNat_ofNat, zero]
    omega
  have notWindows : ¬ ((1 : Byte) = 0) := by decide
  simp only [takeSetGuard, coded, named, if_false, notWindows, low, decide_true, Bool.and_self, if_true,
    State.guardGroups]

/-- Settles O53: each request's fields decode to what it stores. -/
theorem wallAndShotAreConfigured : Obligations.WallAndShotAreConfigured := by
  refine ⟨fun s p tag quiet ready engineer => ⟨fun q h1 h0 => ?_, fun n pres d1 d0 c curve some below duration on off => ?_,
    fun n pres x1 x0 y1 y0 w1 w0 h1 h0 b1 b0 en on some below rect brightness flag noFlag => ?_⟩,
    fun s p tag quiet ready engineer open' => ⟨fun i w3 w2 w1 w0 g1 g0 => ?_, fun m3 m2 m1 m0 mode g named coded =>
      ⟨?_, fun zero3 zero2 => ?_⟩⟩⟩
  · refine State.request_next ready (by exact quiet) (by simp) ?_
    rw [State.answer_engineer rfl engineer (by simp [AccessUnit.lockedOut]) rfl, takeByCode_1f, takeSetSource_ok]
    rfl
  · refine State.request_next ready (by exact quiet) (by simp) ?_
    rw [State.answer_engineer rfl engineer (by simp [AccessUnit.lockedOut]) rfl, takeByCode_20,
      takeSetTransition_ok s n some below duration on off]
    rfl
  · refine State.request_next ready (by exact quiet) (by simp) ?_
    rw [State.answer_engineer rfl engineer (by simp [AccessUnit.lockedOut]) rfl, takeByCode_1e,
      takeSetWallLink_ok s n some below rect brightness flag noFlag]
    rfl
  · refine State.request_next ready (by exact quiet) (by simp) ?_
    rw [State.answer_engineer rfl engineer (by simp [AccessUnit.lockedOut, open']) rfl, takeByCode_1a, takeSetShotMap_ok]
    rfl
  · refine ⟨s.guardWindows (be32 m3 m2 m1 m0) g, State.request_next ready (by exact quiet) (by simp) ?_, rfl,
      fun w => by simp [State.guardWindows]⟩
    rw [State.answer_engineer rfl engineer (by simp [AccessUnit.lockedOut, open']) rfl, takeByCode_1b,
      takeSetGuard_windows s named coded]
    rfl
  · subst zero3 zero2
    refine ⟨s.guardGroups (be32 0 0 m1 m0) g, State.request_next ready (by exact quiet) (by simp) ?_, rfl,
      fun w => by simp [State.guardGroups]⟩
    rw [State.answer_engineer rfl engineer (by simp [AccessUnit.lockedOut, open']) rfl, takeByCode_1b,
      takeSetGuard_groups s named coded]
    rfl

/-! ### The frame counter, the routes and the clip counters -/

theorem routeSlot_of {kind : Nat} (i : Fin 16) (h : i.val ≤ 12 ∧ kind = i.val ∨ 13 ≤ i.val ∧ kind = i.val + 4) :
    routeSlot kind = some i := by
  rcases h with ⟨low, same⟩ | ⟨high, same⟩
  · simp [routeSlot, same, low]
  · have fits := i.isLt
    obtain is | is | is : i.val = 13 ∨ i.val = 14 ∨ i.val = 15 := by omega
    all_goals
      have at' : i = ⟨i.val, i.isLt⟩ := rfl
      simp only [is] at at'
      rw [same, is, at']
      rfl

theorem routeSlot_none {kind : Nat} (h : 13 ≤ kind ∧ kind ≤ 16 ∨ 20 ≤ kind) : routeSlot kind = none := by
  unfold routeSlot
  rw [dif_neg (by omega), if_neg (by omega), if_neg (by omega), if_neg (by omega)]

theorem takeSetRoute_ok (s : State) {kind set : Byte} {i : Fin 16} (slot : routeSlot kind.toNat = some i)
    (four : set.toNat < 16) : takeSetRoute [kind, set] s = okay { s with ports := { s.ports with
      routing := s.ports.routing.set i (BitVec.ofNat 4 set.toNat) } } := by
  simp only [takeSetRoute, slot, if_pos four]

theorem takeSetRoute_format (s : State) {kind set : Byte} (slot : routeSlot kind.toNat = none) :
    takeSetRoute [kind, set] s = refuse s .format := by
  simp only [takeSetRoute, slot]

/-- Settles O55: the three requests store at once what they carry, and no more. -/
theorem frameRoutesAndClipsAreSet : Obligations.FrameRoutesAndClipsAreSet := by
  refine fun s p tag quiet ready => ⟨fun engineer b3 b2 b1 b0 => ?_, fun engineer kind set four =>
    ⟨fun i named => ?_, fun other => ?_⟩, ?_⟩
  · refine State.request_next ready (by exact quiet) (by simp) ?_
    rw [State.answer_engineer rfl engineer (by simp [AccessUnit.lockedOut]) rfl, takeByCode_23]
    rfl
  · refine State.request_next ready (by exact quiet) (by simp) ?_
    rw [State.answer_engineer rfl engineer (by simp [AccessUnit.lockedOut]) rfl, takeByCode_21,
      takeSetRoute_ok s (routeSlot_of i named) four]
    rfl
  · refine State.request_next ready quiet (by simp) ?_
    rw [State.answer_engineer rfl engineer (by simp [AccessUnit.lockedOut]) rfl, takeByCode_21,
      takeSetRoute_format s (routeSlot_none other)]
    rfl
  · refine State.request_next ready (by exact quiet) (by simp) ?_
    rw [State.answer_unchecked rfl rfl (by simp [AccessUnit.lockedOut]) rfl, takeByCode_03]
    rfl

/-! ### The image -/

/-- Settles O57: a save is begun by the request, and ended for the port that asked by its completion or its failure. -/
theorem savesBeginAndEnd : Obligations.SavesBeginAndEnd := by
  refine fun s quiet => ⟨fun p tag ready engineer => ⟨fun free => ?_, fun saving => ?_⟩, fun v saving => ⟨?_, ?_, ?_⟩⟩
  · refine State.request_next ready (by exact quiet) (by simp) ?_
    rw [State.answer_engineer rfl engineer (by simp [AccessUnit.lockedOut]) rfl, takeByCode_26]
    simp only [takeSaveImage, free]
    rfl
  · obtain ⟨v, is⟩ := Option.isSome_iff_exists.1 saving
    refine State.request_next ready quiet (by simp) ?_
    rw [State.answer_engineer rfl engineer (by simp [AccessUnit.lockedOut]) rfl, takeByCode_26]
    simp only [takeSaveImage, is]
    rfl
  · show execSaveCompletion s = _
    simp only [execSaveCompletion, saving]
    rfl
  · show execSaveVerifyFailure s = _
    simp only [execSaveVerifyFailure, State.failSave, saving]
    rfl
  · show execSaveTimeout s = _
    simp only [execSaveTimeout, State.failSave, saving]
    rfl

end Sys2Proof.Machine
end

section
/-! PROOF. The access unit's requests: roles, pages, locks, claims and handovers. -/

namespace Sys2Proof.Machine

/-! ### Roles, pages and locks (R136-R139) -/

theorem takeSetPage_ok (s : State) (p : Port) (n : Fin 4) : takeSetPage p [BitVec.ofNat 8 n.val] s =
    okay { s with access := { s.access with pages := s.access.pages.set p n } } := by
  simp only [takeSetPage, withFields_of (index_ofNat (by decide) n)]

/-- The ENGINEERING ports other than one. -/
theorem otherEngineers_iff (roles : Vector PortRole 4) (q : Port) :
    ((List.finRange 4).any fun i => decide (i ≠ q ∧ roles[i] = .engineering)) = true ↔
      ∃ o : Port, o ≠ q ∧ roles[o] = .engineering := by
  simp

theorem takeSetRole_engineering (s : State) (q : Port) : takeSetRole [BitVec.ofNat 8 q.val, 0] s =
    okay { s with access := { s.access with roles := s.access.roles.set q .engineering } } := by
  have role : portRole? 0 = some .engineering := rfl
  simp only [takeSetRole, withFields_of (both_of_ok (orFormat_of role) (index_ofNat (by decide) q))]
  rfl

theorem takeSetRole_operator (s : State) {q : Port} (others : ∃ o : Port, o ≠ q ∧ s.access.roles[o] = .engineering) :
    takeSetRole [BitVec.ofNat 8 q.val, 1] s =
      okay { s with access := { s.access with roles := s.access.roles.set q .operator } } := by
  have role : portRole? 1 = some .operator := rfl
  simp only [takeSetRole, withFields_of (both_of_ok (orFormat_of role) (index_ofNat (by decide) q)),
    (otherEngineers_iff _ _).2 others, Bool.not_true, Bool.and_false]
  rfl

theorem takeSetRole_last (s : State) {q : Port} (engineer : s.access.roles[q] = .engineering)
    (alone : ∀ o : Port, o ≠ q → s.access.roles[o] = .operator) :
    takeSetRole [BitVec.ofNat 8 q.val, 1] s = refuse s .lastEngineer := by
  have role : portRole? 1 = some .operator := rfl
  have others : ((List.finRange 4).any fun i => decide (i ≠ q ∧ s.access.roles[i] = .engineering)) = false := by
    refine Bool.eq_false_iff.2 fun some => ?_
    obtain ⟨o, other, is⟩ := (otherEngineers_iff _ _).1 some
    rw [alone o other] at is
    cases is
  simp only [takeSetRole, withFields_of (both_of_ok (orFormat_of role) (index_ofNat (by decide) q)), others, engineer]
  rfl

/-- Settles O49: each request stores its value, but for the last ENGINEERING port's role. -/
theorem rolesPagesAndLocks : Obligations.RolesPagesAndLocks := by
  refine fun s p tag quiet ready => ⟨fun n => ?_, fun engineer => ⟨?_, ?_, fun q => ?_, fun q others => ?_, fun alone => ?_⟩⟩
  · refine State.request_next ready (by exact quiet) (by simp) ?_
    rw [State.answer_unchecked rfl rfl (by simp [AccessUnit.lockedOut]) rfl, takeByCode_19, takeSetPage_ok]
    rfl
  · refine State.request_next ready (by exact quiet) (by simp) ?_
    rw [State.answer_engineer rfl engineer (by simp [AccessUnit.lockedOut]) rfl, takeByCode_25]
    rfl
  · refine State.request_next ready (by exact quiet) (by simp) ?_
    rw [State.answer_engineer rfl engineer (by simp [AccessUnit.lockedOut]) rfl, takeByCode_25]
    rfl
  · refine State.request_next ready (by exact quiet) (by simp) ?_
    rw [State.answer_engineer rfl engineer (by simp [AccessUnit.lockedOut]) rfl, takeByCode_18, takeSetRole_engineering]
    rfl
  · refine State.request_next ready (by exact quiet) (by simp) ?_
    rw [State.answer_engineer rfl engineer (by simp [AccessUnit.lockedOut]) rfl, takeByCode_18,
      takeSetRole_operator s others]
    rfl
  · refine State.request_next ready quiet (by simp) ?_
    rw [State.answer_engineer rfl engineer (by simp [AccessUnit.lockedOut]) rfl, takeByCode_18,
      takeSetRole_last s engineer alone]
    rfl

/-! ### CLAIM (R145, R146) -/

/-- The first number of which a property holds. -/
theorem find?_finRange {n : Nat} {f : Fin n → Bool} {i : Fin n} (at' : f i = true) (before : ∀ j, j < i → f j = false) :
    (List.finRange n).find? f = some i := by
  refine List.find?_eq_some_iff_getElem.2 ⟨at', i.val, by simp, by simp, fun j lt => ?_⟩
  rw [Bool.not_eq_true', List.getElem_finRange]
  exact before _ lt

theorem AccessUnit.claimConflict_iff (a : AccessUnit) (p : Port) (r : ClaimRange) : a.claimConflict p r = true ↔
    ∃ (i : ClaimId) (d : Claim), a.claims[i] = some d ∧ d.range.shares r = true ∧
      (d.owner ≠ p ∨ d.contest.isSome = true) := by
  unfold claimConflict
  rw [List.any_eq_true]
  constructor
  · rintro ⟨e, there, conflicts⟩
    obtain ⟨i, lt, same⟩ := List.mem_iff_getElem.1 there
    cases e with
    | none => cases conflicts
    | some d =>
      refine ⟨⟨i, by simpa using lt⟩, d, by simpa using same, ?_⟩
      simpa using conflicts
  · rintro ⟨i, d, used, shares, sep⟩
    exact ⟨a.claims[i], by simp, by rw [used]; simpa [shares] using sep⟩

section
variable {s : State} {p : Port} {kind auto : Byte} {on : Bool} {rest : List Byte} {range : ClaimRange}

theorem takeClaim_conflict (flag : flag? auto = some on) (fields : claimRange kind rest = .ok range)
    (conflict : s.access.claimConflict p range = true) : takeClaim p (kind :: auto :: rest) s = refuse s .conflict := by
  simp only [takeClaim, withFields_of (both_of_ok (orFormat_of flag) fields), conflict, if_true]

theorem takeClaim_full (flag : flag? auto = some on) (fields : claimRange kind rest = .ok range)
    (apart : s.access.claimConflict p range = false) (full : s.access.freeClaim = none) :
    takeClaim p (kind :: auto :: rest) s = refuse s .noSpace := by
  simp only [takeClaim, withFields_of (both_of_ok (orFormat_of flag) fields), apart, full]
  rfl

theorem takeClaim_ok {id : ClaimId} (flag : flag? auto = some on) (fields : claimRange kind rest = .ok range)
    (apart : s.access.claimConflict p range = false) (free : s.access.freeClaim = some id) :
    takeClaim p (kind :: auto :: rest) s =
      ⟨.ok, [BitVec.ofNat 8 id.val], s.setClaim id (some ⟨p, range, on, none⟩)⟩ := by
  simp only [takeClaim, withFields_of (both_of_ok (orFormat_of flag) fields), apart, free]
  rfl

theorem claimRange_length (fields : claimRange kind rest = .ok range) : rest.length ≤ 4 := by
  unfold claimRange at fields
  split at fields
  · simp
  · simp
  · simp
  · simp
  · cases fields

end

/-- Settles O46: the claim table decides by the claims whose range shares an item, and then by its free entries. -/
theorem claimsAreMade : Obligations.ClaimsAreMade := by
  intro s p tag kind auto on rest range quiet ready flag fields
  have short := claimRange_length fields
  have fits : (kind :: auto :: rest).length ≤ 1020 := by
    simp only [List.length_cons]
    omega
  have passes : s.answer p 0x13 (kind :: auto :: rest) = takeClaim p (kind :: auto :: rest) s := by
    rw [State.answer_unchecked rfl rfl (by simp [AccessUnit.lockedOut]) rfl, takeByCode_13]
  refine ⟨fun conflict => ?_, fun own => ?_⟩
  · exact State.request_next ready quiet fits
      (passes.trans (takeClaim_conflict flag fields ((AccessUnit.claimConflict_iff _ _ _).2 conflict)))
  · have apart : s.access.claimConflict p range = false := by
      refine Bool.eq_false_iff.2 fun conflict => ?_
      obtain ⟨i, d, used, shares, sep⟩ := (AccessUnit.claimConflict_iff _ _ _).1 conflict
      obtain ⟨mine, quiet⟩ := own i d used shares
      rcases sep with other | contested
      · exact other mine
      · rw [quiet] at contested; cases contested
    refine ⟨fun full => ?_, fun id free lowest => ?_⟩
    · refine State.request_next ready quiet fits (passes.trans (takeClaim_full flag fields apart ?_))
      refine List.find?_eq_none.2 fun id _ => ?_
      obtain ⟨c, used⟩ := Option.isSome_iff_exists.1 (full id)
      rw [used]
      exact Bool.noConfusion
    · refine State.request_next ready (State.setClaim_quiet quiet _ _) fits
        (passes.trans (takeClaim_ok flag fields apart (find?_finRange ?_ fun j lt => ?_)))
      · rw [free]; rfl
      · obtain ⟨c, used⟩ := Option.isSome_iff_exists.1 (lowest j lt)
        rw [used]; rfl

/-! ### ASK and DROP_CLAIM (R148, R153) -/

section
variable {s : State} {p : Port} {id : ClaimId} {c : Claim}

theorem AccessUnit.sharedByOwner_iff (a : AccessUnit) (id : ClaimId) (c : Claim) : a.sharedByOwner id c = true ↔
    ∃ (j : ClaimId) (d : Claim), j ≠ id ∧ a.claims[j] = some d ∧ d.owner = c.owner ∧ d.range.shares c.range = true := by
  unfold sharedByOwner
  rw [List.any_eq_true]
  constructor
  · rintro ⟨j, -, shares⟩
    cases used : a.claims[j] with
    | none => rw [used] at shares; cases shares
    | some d =>
      rw [used] at shares
      obtain ⟨sep, same⟩ := Bool.and_eq_true_iff.1 shares
      obtain ⟨other, owner⟩ := of_decide_eq_true sep
      exact ⟨j, d, other, used, owner, same⟩
  · rintro ⟨j, d, other, used, owner, same⟩
    refine ⟨j, List.mem_finRange j, ?_⟩
    rw [used]
    exact Bool.and_eq_true_iff.2 ⟨decide_eq_true ⟨other, owner⟩, same⟩

theorem takeAsk_own (used : s.access.claims[id] = some c) (own : c.owner = p) :
    takeAsk p [BitVec.ofNat 8 id.val] s = okay s := by
  rw [takeAsk, withClaim_of_used used, if_pos own]

theorem takeAsk_contested (used : s.access.claims[id] = some c) (other : c.owner ≠ p) (contested : c.contest.isSome = true) :
    takeAsk p [BitVec.ofNat 8 id.val] s = refuse s .contested := by
  rw [takeAsk, withClaim_of_used used, if_neg other, if_pos contested]

theorem takeAsk_shared (used : s.access.claims[id] = some c) (other : c.owner ≠ p) (held : c.contest = none)
    (shared : s.access.sharedByOwner id c = true) : takeAsk p [BitVec.ofNat 8 id.val] s = refuse s .conflict := by
  rw [takeAsk, withClaim_of_used used, if_neg other, if_neg (by simp [held]), if_pos shared]

theorem takeAsk_asks (used : s.access.claims[id] = some c) (other : c.owner ≠ p) (held : c.contest = none)
    (alone : ¬ s.access.sharedByOwner id c = true) :
    let expiry : Frame := s.ref.counter + BitVec.ofNat 32 s.access.timeout
    takeAsk p [BitVec.ofNat 8 id.val] s = ⟨.pending, frameBytes expiry,
      (s.setClaim id (some { c with contest := some ⟨p, expiry⟩ })).raiseTo (onlyPort c.owner)
        (.handoverAsk id p expiry s.ref.counter)⟩ := by
  rw [takeAsk, withClaim_of_used used, if_neg other, if_neg (by simp [held]), if_neg alone]

theorem takeDropClaim_held (used : s.access.claims[id] = some c) (held : c.contest = none) :
    takeDropClaim [BitVec.ofNat 8 id.val] s = okay (s.setClaim id none) := by
  rw [takeDropClaim, withClaim_of_used used, held]

theorem takeDropClaim_contested {w : Contest} (used : s.access.claims[id] = some c) (contested : c.contest = some w) :
    takeDropClaim [BitVec.ofNat 8 id.val] s = okay ((s.setClaim id none).raiseTo (onlyPort w.waiting)
      (.handoverTimeout id .dropped s.ref.counter)) := by
  rw [takeDropClaim, withClaim_of_used used, contested]

end

/-- Settles O48: ASK by whose claim it is and whether it is CONTESTED, DROP_CLAIM by whether a port waits for it. -/
theorem claimsAreAskedForAndDropped : Obligations.ClaimsAreAskedForAndDropped := by
  intro s p tag quiet ready
  have ask (b : Byte) : s.answer p 0x15 [b] = takeAsk p [b] s := by
    rw [State.answer_unchecked rfl rfl (by simp [AccessUnit.lockedOut]) rfl, takeByCode_15]
  have drop (engineer : s.access.roles[p] = .engineering) (b : Byte) : s.answer p 0x17 [b] = takeDropClaim [b] s := by
    rw [State.answer_engineer rfl engineer (by simp [AccessUnit.lockedOut]) rfl, takeByCode_17]
  refine ⟨fun b high => ⟨?_, fun engineer => ?_⟩, fun id free => ⟨?_, fun engineer => ?_⟩, fun id c used => ?_⟩
  · exact State.request_next ready quiet (by simp) ((ask b).trans (withClaim_range s high _))
  · exact State.request_next ready quiet (by simp) ((drop engineer b).trans (withClaim_range s high _))
  · exact State.request_next ready quiet (by simp) ((ask _).trans (withClaim_of_free free _))
  · exact State.request_next ready quiet (by simp) ((drop engineer _).trans (withClaim_of_free free _))
  · refine ⟨fun own => ?_, fun other contested => ?_, fun other held shared => ?_, fun other held alone => ?_,
      fun engineer held => ?_, fun w engineer contested => ?_⟩
    · exact State.request_next ready quiet (by simp) ((ask _).trans (takeAsk_own used own))
    · exact State.request_next ready quiet (by simp) ((ask _).trans (takeAsk_contested used other contested))
    · exact State.request_next ready quiet (by simp)
        ((ask _).trans (takeAsk_shared used other held ((AccessUnit.sharedByOwner_iff _ _ _).2 shared)))
    · exact State.request_notices ready (by simp)
        ((ask _).trans (takeAsk_asks used other held fun shared => alone ((AccessUnit.sharedByOwner_iff _ _ _).1 shared)))
    · exact State.request_next ready (State.setClaim_quiet quiet _ _) (by simp)
        ((drop engineer _).trans (takeDropClaim_held used held))
    · exact State.request_notices ready (by simp) ((drop engineer _).trans (takeDropClaim_contested used contested))

end Sys2Proof.Machine
end

section
/-! PROOF. The requests of the patch, the lines, the timing values and the reads. -/

namespace Sys2Proof.Machine

/-! ### SET_PATCH (R60) -/

/-- The groups of a patch payload cover all of it. -/
theorem splitPatch_length {mask : Nat} {gs : List (Nat × Nat)} {l : List Byte} {groups : List (Nat × List Byte)}
    (h : splitPatch mask gs l = some groups) : l.length ≤ (gs.map Prod.snd).sum := by
  induction gs generalizing l groups with
  | nil =>
    cases l with
    | nil => simp
    | cons b l => cases h
  | cons g gs ih =>
    rw [List.map_cons, List.sum_cons]
    unfold splitPatch at h
    split at h
    · split at h
      · obtain ⟨r, rest, -⟩ := Option.map_eq_some_iff.1 h
        have := ih rest
        rw [List.length_drop] at this
        omega
      · cases h
    · exact le_trans (ih h) (Nat.le_add_left _ _)

theorem State.patchConflict_iff (s : State) (n : ChannelNo) (p : PatchRec) : s.patchConflict n p = true ↔
    ∃ l : LineNo, p.line = some l ∧
      ((s.lines[l]).slots < p.lastSlot ∨ ∃ m : ChannelNo, m ≠ n ∧ p.overlaps s.level.patch[m] = true) := by
  unfold patchConflict
  cases p.line with
  | none => simp
  | some l => simp

section
variable {s : State} {c1 c0 mask : Byte} {n : ChannelNo} {rest : List Byte} {groups : List (Nat × List Byte)}
  {writes : List (PatchRec → PatchRec)}

/-- A well-formed SET_PATCH is decided by the conflicts of its record. -/
theorem takeSetPatch_of (channel : be16 c1 c0 = n.val) (named : 1 ≤ mask.toNat) (below : mask.toNat < 64)
    (split : splitPatch mask.toNat patchGroups rest = some groups)
    (decoded : everyOk (groups.map fun g => patchWrite g.1 g.2) = .ok writes) :
    takeSetPatch (c1 :: c0 :: mask :: rest) s =
      if s.patchConflict n (writes.foldl (fun p w => w p) s.level.patch[n]) then refuse s .conflict
      else okay { s with level := { s.level with
        patch := s.level.patch.set n (writes.foldl (fun p w => w p) s.level.patch[n]) } } := by
  have fields := both_of_ok (both_of_ok (needFormat_of (decide_eq_true (And.intro named below))) decoded)
    (index_of_lt n channel)
  simp only [takeSetPatch, split, withFields_of fields]

end

/-! ### SET_LINE (R76) -/

/-- A number reaches the highest slot of a line where it reaches the last slot of each of its channels. -/
theorem lt_highestSlot_iff (patch : Vector PatchRec 1024) (l : LineNo) (x : Nat) : x < highestSlot patch l ↔
    ∃ n : ChannelNo, (patch[n]).line = some l ∧ x < (patch[n]).lastSlot := by
  constructor
  · intro below
    have folded : ∀ (ps : List PatchRec) (m : Nat),
        x < ps.foldl (fun m p => if p.line = some l then max m p.lastSlot else m) m →
          x < m ∨ ∃ p ∈ ps, p.line = some l ∧ x < p.lastSlot := by
      intro ps
      induction ps with
      | nil => exact fun m h => .inl h
      | cons p ps ih =>
        intro m h
        rcases ih _ h with start | ⟨q, there, q_on⟩
        · beta_reduce at start
          split at start
          next on =>
            rcases lt_max_iff.1 start with old | last
            · exact .inl old
            · exact .inr ⟨p, List.mem_cons_self, on, last⟩
          next => exact .inl start
        · exact .inr ⟨q, List.mem_cons_of_mem _ there, q_on⟩
    rcases folded _ _ below with zero | ⟨p, there, on, last⟩
    · exact absurd zero (Nat.not_lt_zero x)
    · obtain ⟨i, lt, same⟩ := Vector.mem_iff_getElem.1 (Vector.mem_toList_iff.1 there)
      exact ⟨⟨i, lt⟩, by simpa [same] using on, by simpa [same] using last⟩
  · rintro ⟨n, on, last⟩
    exact lt_of_lt_of_le last (lastSlot_le_highestSlot patch n l on)

section
variable {s : State} {l : LineNo} {pres en s1 s0 b1 b0 : Byte} {enabled : Option Bool}

/-- A well-formed SET_LINE is decided by the highest slot patched on its line. -/
theorem takeSetLine_of (some : 1 ≤ pres.toNat) (below : pres.toNat < 8)
    (flag : pres.getLsbD 0 = true → enabled.isSome = true ∧ flag? en = enabled)
    (noFlag : pres.getLsbD 0 = false → en = 0 ∧ enabled = none)
    (noSlots : pres.getLsbD 1 = false → s1 = 0 ∧ s0 = 0) (noBreak : pres.getLsbD 2 = false → b1 = 0 ∧ b0 = 0) :
    takeSetLine [BitVec.ofNat 8 l.val, pres, en, s1, s0, b1, b0] s =
      if pres.getLsbD 1 = true ∧ max 24 (min 512 (be16 s1 s0)) < highestSlot s.level.patch l then refuse s .conflict
      else okay (s.modLine l fun x => x.configure enabled
        (if pres.getLsbD 1 then Option.some (max 24 (min 512 (be16 s1 s0))) else none)
        (if pres.getLsbD 2 then Option.some (max 88 (min 1000 (be16 b1 b0))) else none)) := by
  have reserved : (decide (1 ≤ pres.toNat ∧ pres.toNat < 8) && (pres.getLsbD 1 || allZero [s1, s0])
      && (pres.getLsbD 2 || allZero [b1, b0])) = true := by
    rw [decide_eq_true ⟨some, below⟩, present_or_zero fun absent => by simp [allZero, noSlots absent],
      present_or_zero fun absent => by simp [allZero, noBreak absent]]
    rfl
  have fields := both_of_ok (both_of_ok (needFormat_of reserved) (optionalField_of flag noFlag))
    (index_ofNat (by decide) l)
  simp only [takeSetLine, withFields_of fields, clampNat_eq (by decide : 24 ≤ 512), clampNat_eq (by decide : 88 ≤ 1000)]
  cases pres.getLsbD 1 <;> simp

theorem Line.configure_eq (x : Line) (slots breakLen : Nat) (a b : Bool) :
    x.configure enabled (if a then some slots else none) (if b then some breakLen else none) = { x with
      enabled := enabled.getD x.enabled
      slots := if a then slots else x.slots
      breakLen := if b then breakLen else x.breakLen
      waiting := if enabled = some false then none else x.waiting } := by
  unfold configure
  cases a <;> cases b <;> by_cases off : enabled = some false <;> simp [off]

end

/-- Settles O51: the record's conflicts, and the highest patched slot, decide. -/
theorem patchAndLinesAreSet : Obligations.PatchAndLinesAreSet := by
  refine fun s p tag quiet ready engineer => ⟨?_, ?_⟩
  · intro c1 c0 mask n rest groups writes open' channel some below split decoded c record conflict
    have fits : (c1 :: c0 :: mask :: rest).length ≤ 1020 := by
      have := splitPatch_length split
      simp only [List.length_cons, patchGroups, List.map_cons, List.map_nil, List.sum_cons, List.sum_nil] at this ⊢
      omega
    have passes : s.answer p 0x1C (c1 :: c0 :: mask :: rest) = takeSetPatch (c1 :: c0 :: mask :: rest) s := by
      rw [State.answer_engineer rfl engineer (by simp [AccessUnit.lockedOut, open']) rfl, takeByCode_1c]
    have decides := State.patchConflict_iff s n record
    refine ⟨fun apart => ?_, fun conflicts => ?_⟩
    · refine State.request_next ready (by exact quiet) fits ?_
      rw [passes, takeSetPatch_of channel some below split decoded, if_neg (mt decides.1 apart)]
      rfl
    · refine State.request_next ready quiet fits ?_
      rw [passes, takeSetPatch_of channel some below split decoded, if_pos (decides.2 conflicts)]
      rfl
  · intro l pres en s1 s0 b1 b0 enabled some below flag noFlag noSlots noBreak c slots conflict
    have passes (payload : List Byte) : s.answer p 0x1D payload = takeSetLine payload s := by
      rw [State.answer_engineer rfl engineer (by simp [AccessUnit.lockedOut]) rfl, takeByCode_1d]
    have decides : (pres.getLsbD 1 = true ∧ slots < highestSlot s.level.patch l) ↔ conflict :=
      and_congr_right fun _ => lt_highestSlot_iff _ _ _
    refine ⟨fun apart => ?_, fun conflicts => ?_⟩
    · refine State.request_next ready (by exact quiet) (by simp) ?_
      rw [passes, takeSetLine_of some below flag noFlag noSlots noBreak, if_neg (mt decides.1 apart)]
      simp only [Line.configure_eq]
      rfl
    · refine State.request_next ready quiet (by simp) ?_
      rw [passes, takeSetLine_of some below flag noFlag noSlots noBreak, if_pos (decides.2 conflicts)]
      rfl

/-! ### SET_TIMING (R4, R128, R169) -/

theorem portRates_length {rest : List Byte} {coded : List (Except ReplyCode (Port × LineRate))}
    (h : portRates rest = some coded) : rest.length = 2 * coded.length := by
  induction rest using portRates.induct generalizing coded with
  | case1 => cases h; rfl
  | case2 q r rest ih =>
    obtain ⟨l, more, rfl⟩ := Option.map_eq_some_iff.1 h
    simp only [List.length_cons, ih more]
    omega
  | case3 l short long =>
    unfold portRates at h
    split at h
    · exact absurd rfl short
    · exact absurd rfl (long _ _ _)
    · cases h

theorem State.setPortRate_at (s : State) (sender q : Port) (x : Port × LineRate) :
    (s.setPortRate sender x).ports.port[q] = if x.1 = q then
      { s.ports.port[q] with pendingRate := if x.2 = (s.ports.port[q]).rate then none else some ⟨x.2, some sender⟩ }
      else s.ports.port[q] := by
  rw [setPortRate, State.modPort_at]
  by_cases same : x.1 = q
  · rw [if_pos same, if_pos same, same]
  · rw [if_neg same, if_neg same]

/-- The pending rate that a list of line rates leaves on a port: the last one named for it decides (R169). -/
def pendingAfter (rates : List (Port × LineRate)) (sender q : Port) (x : PortState) : Option PendingRate :=
  match (rates.filter fun r => decide (r.1 = q)).getLast? with
  | none => x.pendingRate
  | some r => if r.2 = x.rate then none else some ⟨r.2, some sender⟩

theorem pendingAfter_append (rates : List (Port × LineRate)) (sender q : Port) (x : PortState) (r : Port × LineRate) :
    pendingAfter (rates ++ [r]) sender q x =
      if r.1 = q then (if r.2 = x.rate then none else some ⟨r.2, some sender⟩) else pendingAfter rates sender q x := by
  unfold pendingAfter
  rw [List.filter_append]
  by_cases same : r.1 = q <;> simp [same]

/-- Line rates are kept in the ports. -/
theorem State.setPortRates_keep (s : State) (sender : Port) (rates : List (Port × LineRate)) :
    ∃ port, rates.foldl (fun s x => s.setPortRate sender x) s = { s with ports := { s.ports with port } } := by
  induction rates generalizing s with
  | nil => exact ⟨_, rfl⟩
  | cons r rates ih => exact ih (s.setPortRate sender r)

theorem State.setPortRates_at (s : State) (sender q : Port) (rates : List (Port × LineRate)) :
    (rates.foldl (fun s x => s.setPortRate sender x) s).ports.port[q] =
      { s.ports.port[q] with pendingRate := pendingAfter rates sender q s.ports.port[q] } := by
  induction rates using List.reverseRecOn with
  | nil => rfl
  | append_singleton rates r ih =>
    rw [List.foldl_append, List.foldl_cons, List.foldl_nil, setPortRate_at, ih, pendingAfter_append]
    split <;> rfl

section
variable {s : State} {p : Port} {pres r g1 g0 t1 t0 f1 f0 w1 w0 : Byte} {rest : List Byte}
  {coded : List (Except ReplyCode (Port × LineRate))} {rates : List (Port × LineRate)} {rate : Option Rate}

/-- A well-formed SET_TIMING stores its values, and then its line rates one by one. -/
theorem takeSetTiming_of (below : pres.toNat < 32) (split : portRates rest = some coded)
    (decoded : everyOk coded = .ok rates) (four : rates.length ≤ 4) (named : pres ≠ 0 ∨ rates ≠ [])
    (on : pres.getLsbD 0 = true → rate.isSome = true ∧ rate? r = rate)
    (off : pres.getLsbD 0 = false → r = 0 ∧ rate = none) (noGrace : pres.getLsbD 1 = false → g1 = 0 ∧ g0 = 0)
    (noTimeout : pres.getLsbD 2 = false → t1 = 0 ∧ t0 = 0) (noFade : pres.getLsbD 3 = false → f1 = 0 ∧ f0 = 0)
    (noWall : pres.getLsbD 4 = false → w1 = 0 ∧ w0 = 0) :
    takeSetTiming p (pres :: r :: g1 :: g0 :: t1 :: t0 :: f1 :: f0 :: w1 :: w0 :: rest) s =
      okay (rates.foldl (fun s x => s.setPortRate p x)
        (s.setTiming pres rate (be16 g1 g0) (be16 t1 t0) (be16 f1 f0) (be16 w1 w0))) := by
  have length := everyOk_length _ decoded
  have present : (decide (pres = 0) && coded.isEmpty) = false := by
    rcases named with mask | ports
    · rw [decide_eq_false mask]; rfl
    · have : coded ≠ [] := fun none => ports (List.length_eq_zero_iff.1 (by rw [length, none]; rfl))
      simp [this]
  have reserved : (decide (pres.toNat < 32) && decide (coded.length ≤ 4) && !(decide (pres = 0) && coded.isEmpty) &&
      ((pres.getLsbD 1 || allZero [g1, g0]) && (pres.getLsbD 2 || allZero [t1, t0])
        && (pres.getLsbD 3 || allZero [f1, f0]) && (pres.getLsbD 4 || allZero [w1, w0]))) = true := by
    rw [decide_eq_true below, decide_eq_true (length ▸ four), present,
      present_or_zero fun absent => by simp [allZero, noGrace absent],
      present_or_zero fun absent => by simp [allZero, noTimeout absent],
      present_or_zero fun absent => by simp [allZero, noFade absent],
      present_or_zero fun absent => by simp [allZero, noWall absent]]
    rfl
  have fields := both_of_ok (both_of_ok (needFormat_of reserved) (optionalField_of on off)) decoded
  simp only [takeSetTiming, split, withFields_of fields]

end

/-- Settles O54: the values are stored, and then the line rates become pending port by port. -/
theorem timingIsSet : Obligations.TimingIsSet := by
  intro s p tag pres r g1 g0 t1 t0 f1 f0 w1 w0 rest coded rates rate quiet ready engineer below split decoded four named
    on off noGrace noTimeout noFade noWall
  let u := s.setTiming pres rate (be16 g1 g0) (be16 t1 t0) (be16 f1 f0) (be16 w1 w0)
  have fits : (pres :: r :: g1 :: g0 :: t1 :: t0 :: f1 :: f0 :: w1 :: w0 :: rest).length ≤ 1020 := by
    have := portRates_length split
    have := everyOk_length _ decoded
    simp only [List.length_cons]
    omega
  obtain ⟨port, is⟩ := u.setPortRates_keep p rates
  have at' (q : Port) := u.setPortRates_at p q rates
  rw [is] at at'
  refine ⟨_, State.request_next ready (t := { u with ports := { u.ports with port } }) ?_ fits ?_, ?_, at'⟩
  · intro q
    have same : port[q] = _ := at' q
    show (port[q]).tx = none → (port[q]).noticeOwed = false
    rw [same]
    exact quiet q
  · rw [State.answer_engineer rfl engineer (by simp [AccessUnit.lockedOut]) rfl, takeByCode_22,
      takeSetTiming_of below split decoded four named on off noGrace noTimeout noFade noWall, is]
    rfl
  · have timeout : clampNat 1 65535 (be16 t1 t0) = max 1 (be16 t1 t0) := by
      rw [clampNat_eq (by decide), min_eq_right (be16_le _ _)]
    simp only [u, State.setTiming, timeout, clampNat_zero]

/-! ### READ and READ_ALERTS (R180, R181) -/

theorem be16_zero (b : Byte) : be16 0 b = b.toNat := by
  simp [be16]

section
variable {s : State} {p : Port} {tag kind q i1 i0 : Byte} {n : Nat} {i : Fin n} {code : ReplyCode} {data : List Byte}
  {t : State}

/-- A READ is answered by its kind (R180). -/
theorem State.read_next (ready : s.ready p) (quiet : t.quiet) (kind q i1 i0 tag : Byte)
    (answer : readKind s kind q (be16 i1 i0) = ⟨code, data, t⟩) :
    (s.request 0x01 ⟨p, tag, [kind, q, i1, i0]⟩).done = .next (t.replied p 0x01 tag code s.ref.counter data) := by
  refine State.request_next ready quiet (by simp) ?_
  rw [State.answer_unchecked rfl rfl (by simp [AccessUnit.lockedOut]) rfl, takeByCode_01]
  exact answer

theorem readPlain_of (s : State) (at' : be16 i1 i0 = i.val) (f : Fin n → Answer) :
    readPlain s n 0 (be16 i1 i0) f = f i :=
  withFields_of (both_of_ok rfl (index_of_lt i at')) _

/-- The one byte of an item's number follows a zero byte. -/
theorem readPlain_ofNat (s : State) (small : n ≤ 256) (i : Fin n) (f : Fin n → Answer) :
    readPlain s n 0 (be16 0 (BitVec.ofNat 8 i.val)) f = f i :=
  readPlain_of s (by rw [be16_zero, toNat_ofNat_fin small]) f

theorem readOverrides_of (s : State) (l : List Override) :
    readOverrides s l = if l = [] then refuse s .notFound else ⟨.ok, overrideList s.takeover.overrides l, s⟩ := by
  unfold readOverrides
  cases l <;> rfl

/-- The override entries of a window are those of its field groups (R119). -/
theorem readKind_override (s : State) (i : Nat) : readKind s 9 1 i = withFields s (index 32 i) fun w =>
    readOverrides s (FieldGroup.all.flatMap fun g => entriesOf s.takeover.overrides (.window w g)) := by
  have notZero : ¬ ((1 : Byte) = 0) := by decide
  simp only [readKind, if_neg notZero, if_true]
  rfl

theorem readCueRecord_of (s : State) (k : StackNo) {i : Nat} (below : i ≤ 9999) :
    readCueRecord s (BitVec.ofNat 8 k.val) i = if i = 0 then report s (s.cue.listRecord k)
      else match s.cue.find k i with
        | some c => report s c.body.bytes
        | none => refuse s .notFound :=
  withFields_of (both_of_ok (index_ofNat (by decide) k) (needRange_of (decide_eq_true below))) _

end

theorem alertRead_next {s : State} {p : Port} {tag : Byte} (quiet : s.quiet) (ready : s.ready p) {payload : List Byte}
    (short : payload.length ≤ 1) {push : Option Bool} (taken : takeReadAlerts p payload s = s.readAlerts p push) :
    (s.request 0x02 ⟨p, tag, payload⟩).done = .next ((s.modPort p fun x =>
      { x with alerts := Vector.replicate 22 none, pushFlag := push.getD x.pushFlag }).replied p 0x02 tag .ok
        s.ref.counter (s.ports.port[p]).alertRecord) := by
  refine State.request_next ready (fun q => ?_) (le_trans short (by decide)) ?_
  · rw [State.modPort_at]
    split
    next same => exact same ▸ quiet p
    next => exact quiet q
  · rw [State.answer_unchecked rfl rfl (by simp [AccessUnit.lockedOut]) rfl, takeByCode_02]
    exact taken

/-- Settles O56: each kind of READ decodes to its record, and READ_ALERTS to its push value. -/
theorem readsAnswer : Obligations.ReadsAnswer := by
  refine ⟨fun s p tag quiet ready => ⟨?_, fun b i1 i0 role n coded at' => ?_, fun b role w coded => ?_, fun id => ?_,
    fun k => ?_, fun k n1 n0 some below => ?_, fun k => ?_, fun l => ?_, fun q => ?_, fun n => ?_, fun i1 i0 n at' => ?_,
    fun w => ?_⟩, fun s p tag quiet ready => ⟨?_, ?_, ?_, fun b high => ?_⟩⟩
  · exact State.read_next ready quiet 0 0 0 0 tag rfl
  · exact State.read_next ready quiet 1 b i1 i0 tag
      (withFields_of (both_of_ok (orFormat_of coded) (index_of_lt n at')) _)
  · exact State.read_next ready quiet 2 b 0 _ tag
      (withFields_of (both_of_ok (orFormat_of coded) (index_of_lt w (by rw [be16_zero, toNat_ofNat_fin (by decide)]))) _)
  · have reads := readPlain_ofNat s (by decide) id fun id => match s.access.claims[id] with
      | some c => report s c.bytes
      | none => refuse s .notFound
    split
    next c used => exact State.read_next ready quiet 3 0 0 _ tag (reads.trans (by rw [used]; rfl))
    next free => exact State.read_next ready quiet 3 0 0 _ tag (reads.trans (by rw [free]; rfl))
  · exact State.read_next ready quiet 4 0 0 _ tag (readPlain_ofNat s (by decide) k fun k => report s (s.stackRecord k))
  · have reads := readCueRecord_of s k below
    rw [if_neg (by omega)] at reads
    split
    next c stands => exact State.read_next ready quiet 5 _ n1 n0 tag (reads.trans (by rw [stands]; rfl))
    next missing => exact State.read_next ready quiet 5 _ n1 n0 tag (reads.trans (by rw [missing]; rfl))
  · exact State.read_next ready quiet 5 _ 0 0 tag ((readCueRecord_of s k (Nat.zero_le _)).trans (if_pos rfl))
  · exact State.read_next ready (by exact quiet) 6 0 0 _ tag (readPlain_ofNat s (by decide) l fun l =>
      ⟨.ok, (s.lines[l]).bytes, s.modLine l fun x => { x with skipArmed := true }⟩)
  · exact State.read_next ready quiet 7 0 0 _ tag
      (readPlain_ofNat s (by decide) q fun q => report s (s.wall.sources[q]).bytes)
  · have reads := readPlain_ofNat s (by decide) n fun n => match s.tally.queue[n.val]? with
      | some d => report s (u8 s.tally.queue.length ++ d.bytes)
      | none => refuse s .notFound
    split
    next d waits => exact State.read_next ready quiet 8 0 0 _ tag (reads.trans (by rw [waits]; rfl))
    next missing => exact State.read_next ready quiet 8 0 0 _ tag (reads.trans (by rw [missing]; rfl))
  · have reads := (withFields_of (s := s) (index_of_lt n at') fun n =>
      readOverrides s (entriesOf s.takeover.overrides (.channel n))).trans (readOverrides_of _ _)
    split
    next empty => exact State.read_next ready quiet 9 0 i1 i0 tag (reads.trans (if_pos empty))
    next entries => exact State.read_next ready quiet 9 0 i1 i0 tag (reads.trans (if_neg entries))
  · have at' : be16 0 (BitVec.ofNat 8 w.val) = w.val := by rw [be16_zero, toNat_ofNat_fin (by decide)]
    have reads := (withFields_of (s := s) (index_of_lt w at') fun w =>
      readOverrides s (FieldGroup.all.flatMap fun g => entriesOf s.takeover.overrides (.window w g))).trans
        (readOverrides_of _ _)
    dsimp only
    split
    next empty => exact State.read_next ready quiet 9 1 0 _ tag ((readKind_override s _).trans (reads.trans (if_pos empty)))
    next entries =>
      exact State.read_next ready quiet 9 1 0 _ tag ((readKind_override s _).trans (reads.trans (if_neg entries)))
  · exact alertRead_next quiet ready (by simp) (push := none) rfl
  · exact alertRead_next quiet ready (by simp) (push := some false) rfl
  · exact alertRead_next quiet ready (by simp) (push := some true) rfl
  · refine State.request_next ready quiet (by simp) ?_
    rw [State.answer_unchecked rfl rfl (by simp [AccessUnit.lockedOut]) rfl, takeByCode_02]
    have coded : flag? b = none := by
      unfold flag?
      rw [if_neg (by rintro rfl; revert high; decide), if_neg (by rintro rfl; revert high; decide)]
    simp only [takeReadAlerts, coded]
    rfl

end Sys2Proof.Machine
end

section
/-! PROOF. The requests of the Cue Unit and of the takeover: GO, ARM, HALT, the levels, the cues, and safety. -/

namespace Sys2Proof.Machine

/-! ### Requests that name a stack (R141) -/

theorem State.quiet.of_ports {s u : State} (quiet : s.quiet) (keeps : u.ports = s.ports) : u.quiet := by
  intro q
  rw [keeps]
  exact quiet q

theorem stackItem_ofNat (k : StackNo) : stackItem (BitVec.ofNat 8 k.val) = [.stack k] := by
  unfold stackItem
  have same := toNat_ofNat_fin (by decide) k
  rw [dif_pos (by omega)]
  simp only [same, Fin.eta]

theorem stackNo_ofNat (k : StackNo) : stackNo (BitVec.ofNat 8 k.val) = .ok k := index_ofNat (by decide) k

section
variable {s : State} {p : Port} {code : Byte} {k : StackNo}

/-- A request that names a stack goes to its block where the claims allow it (R141, R142). -/
theorem State.answer_stack (known : knownCode code = true) (free : engineering code = false)
    (lock : s.access.lockedOut code = false) (rest : List Byte)
    (names : s.itemsNamed p code (BitVec.ofNat 8 k.val :: rest) = stackItem (BitVec.ofNat 8 k.val))
    (allowed : s.access.denied (some p) (.stack k) = false) :
    s.answer p code (BitVec.ofNat 8 k.val :: rest) = takeByCode p code (BitVec.ofNat 8 k.val :: rest) s := by
  refine State.answer_passes known (fun yes => ?_) lock fun i there => ?_
  · rw [free] at yes; cases yes
  · rw [names, stackItem_ofNat, List.mem_singleton] at there
    exact there ▸ allowed

end

/-! ### GO and ARM (R116) -/

section
variable {s : State} {k : StackNo}

theorem takeGo_of (s : State) (k : StackNo) :
    takeGo [BitVec.ofNat 8 k.val] s = ⟨(s.goEffect k).1, [], (s.goEffect k).2⟩ := by
  simp only [takeGo, withFields_of (stackNo_ofNat k)]

theorem State.goEffect_ended (state : (s.cue.recs[k]).state = .ended) : s.goEffect k = (.atEnd, s) := by
  simp only [goEffect, state]

theorem State.goEffect_repeating {n i : Nat} (state : (s.cue.recs[k]).state = .repeating n i) :
    s.goEffect k = (.busy, s) := by
  simp only [goEffect, state]

/-- A GO that the stack's state does not refuse is decided by its level (R116). -/
theorem State.goEffect_open (state : (s.cue.recs[k]).state = .idle ∨ (∃ n, (s.cue.recs[k]).state = .waiting n) ∨
      ∃ f g, (s.cue.recs[k]).state = .armed f g) :
    s.goEffect k = if (s.cue.recs[k]).level < 5 then
      if 5 ≤ s.takeover.mask then (.suspended, s) else (.ok, s.modStack k fun r => { r with state := .waiting 0 })
      else s.takeoverGo k := by
  rcases state with state | ⟨n, state⟩ | ⟨f, g, state⟩ <;> simp only [goEffect, state]

theorem State.takeoverGo_top (top : s.takeover.onTop k = true) :
    s.takeoverGo k = (.ok, s.modStack k StackRec.accept) := by
  simp only [takeoverGo, top, if_true]

theorem State.takeoverGo_under (top : s.takeover.onTop k = false) (holds : s.takeover.holds k = true) :
    s.takeoverGo k = (.pending, s.modStack k fun r => { r with pendingGo := true }) := by
  simp only [takeoverGo, top, holds, if_true, Bool.false_eq_true, if_false]

theorem State.takeoverGo_waiting (top : s.takeover.onTop k = false) (holds : s.takeover.holds k = false) {n : Nat}
    (state : (s.cue.recs[k]).state = .waiting n) : s.takeoverGo k = (.ok, s) := by
  simp only [takeoverGo, top, holds, state, Bool.false_eq_true, if_false]

theorem State.takeoverGo_idle (top : s.takeover.onTop k = false) (holds : s.takeover.holds k = false)
    (state : (s.cue.recs[k]).state = .idle) : s.takeoverGo k = if s.takeover.mask < (s.cue.recs[k]).level then
      (.ok, s.modStack k StackRec.accept) else (.pending, s.modStack k fun r => { r with pendingGo := true }) := by
  simp only [takeoverGo, top, holds, state, Bool.false_eq_true, if_false]

end

/-- Settles O36: the stack's state refuses, or its level and the preemption stack decide. -/
theorem goByState : Obligations.GoByState := by
  intro s p tag k quiet ready allowed c r answers waits accepted pends
  have answered {u : State} {code : ReplyCode} (keeps : u.ports = s.ports) (effect : s.goEffect k = (code, u)) :
      answers u code := by
    refine State.request_next ready (quiet.of_ports keeps) (by simp) ?_
    rw [State.answer_stack rfl rfl (by simp [AccessUnit.lockedOut]) _ rfl allowed, takeByCode_0e, takeGo_of, effect]
  refine ⟨fun ended => answered rfl (State.goEffect_ended ended),
    fun n i repeating => answered rfl (State.goEffect_repeating repeating),
    fun low state => ?_, fun takeover state => ?_⟩
  · have effect := State.goEffect_open state
    rw [if_pos (Nat.lt_succ_of_le low)] at effect
    exact ⟨fun high => answered rfl (effect.trans (if_pos high)),
      fun open' => answered rfl (effect.trans (if_neg (by omega)))⟩
  · have effect := State.goEffect_open (state.elim .inl fun waiting => .inr (.inl waiting))
    have high : 5 ≤ r.level := (of_decide_eq_true takeover).1
    rw [if_neg (Nat.not_lt.2 high)] at effect
    refine ⟨fun top => answered rfl (effect.trans (State.takeoverGo_top top)),
      fun top holds => answered rfl (effect.trans (State.takeoverGo_under top holds)), fun holds top => ?_⟩
    refine ⟨?_, fun idle above => ?_, fun idle below => ?_⟩
    · rintro ⟨n, waiting⟩
      exact answered rfl (effect.trans (State.takeoverGo_waiting top holds waiting))
    · exact answered rfl (effect.trans ((State.takeoverGo_idle top holds idle).trans (if_pos above)))
    · exact answered rfl (effect.trans ((State.takeoverGo_idle top holds idle).trans (if_neg (Nat.not_lt.2 below))))

section
variable {s : State} {k : StackNo} {payload : List Byte} {f : Frame} {g : Nat}

theorem takeArm_of (fields : armFields payload s.cue.lateGrace = some (BitVec.ofNat 8 k.val, f, g)) :
    takeArm payload s = if 5 ≤ (s.cue.recs[k]).level then refuse s .format else
      match (s.cue.recs[k]).state with
      | .ended => refuse s .atEnd
      | .waiting _ => refuse s .busy
      | .repeating _ _ => refuse s .busy
      | .idle => ⟨if f.isPast s.ref.counter then .late else .ok, [], s.modStack k fun r => { r with state := .armed f g }⟩
      | .armed _ _ =>
        ⟨if f.isPast s.ref.counter then .late else .ok, [], s.modStack k fun r => { r with state := .armed f g }⟩ := by
  unfold takeArm
  rw [fields]
  exact withFields_of (stackNo_ofNat k) _

end

/-- Settles O37: the level refuses, and then the stack's state decides. -/
theorem armByState : Obligations.ArmByState := by
  intro s p tag f3 f2 f1 f0 grace k quiet ready allowed carried c g
  have fields : armFields (BitVec.ofNat 8 k.val :: f3 :: f2 :: f1 :: f0 :: carried) s.cue.lateGrace =
      some (BitVec.ofNat 8 k.val, be32 f3 f2 f1 f0, g) := by
    cases grace <;> rfl
  have short : (BitVec.ofNat 8 k.val :: f3 :: f2 :: f1 :: f0 :: carried).length ≤ 1020 := by
    cases grace <;> simp [carried]
  have takes := takeArm_of fields
  have answered {u : State} {code : ReplyCode} (keeps : u.ports = s.ports)
      (effect : takeArm (BitVec.ofNat 8 k.val :: f3 :: f2 :: f1 :: f0 :: carried) s = ⟨code, [], u⟩) :
      exec c s = .next (u.replied p 0x0F tag code s.ref.counter []) := by
    refine State.request_next ready (quiet.of_ports keeps) short ?_
    rw [State.answer_stack rfl rfl (by simp [AccessUnit.lockedOut]) _ rfl allowed, takeByCode_0f, effect]
  refine ⟨fun takeover => answered rfl (takes.trans (if_pos (of_decide_eq_true takeover).1)), fun low => ?_⟩
  rw [if_neg (by omega)] at takes
  refine ⟨?_, fun ended => answered rfl (takes.trans (by rw [ended]; rfl)), ?_⟩
  · rintro (idle | ⟨f', g', armed⟩)
    · exact answered rfl (takes.trans (by rw [idle]))
    · exact answered rfl (takes.trans (by rw [armed]))
  · rintro (⟨n, waiting⟩ | ⟨n, i, repeating⟩)
    · exact answered rfl (takes.trans (by rw [waiting]; rfl))
    · exact answered rfl (takes.trans (by rw [repeating]; rfl))

/-! ### HALT, RESET_STACK and the level of a stack (R92, R116) -/

theorem StackRec.halt_eq (r : StackRec) : r.halt = { r with
    state := if r.position = none then .ended else .idle, loop := none, chainedGo := false, pendingGo := false } := by
  unfold halt
  cases r.position <;> rfl

theorem State.levelFree_of_rests {s : State} {k : StackNo} (rests : s.restsAt k) (free : s.takeover.holds k = false) :
    s.levelFree k = true := by
  obtain ⟨state, chained, pending⟩ := rests
  simp only [levelFree, decide_eq_true state, chained, pending, free]
  rfl

theorem State.levelFree_of_busy {s : State} {k : StackNo} (busy : ¬ s.restsAt k ∨ s.takeover.holds k = true) :
    s.levelFree k = false := by
  refine Bool.eq_false_iff.2 fun levelled => ?_
  simp only [levelFree, Bool.and_eq_true, decide_eq_true_eq, Bool.not_eq_true'] at levelled
  obtain ⟨⟨⟨state, pending⟩, chained⟩, free⟩ := levelled
  rcases busy with working | holds
  · exact working ⟨state, chained, pending⟩
  · rw [holds] at free; cases free

theorem State.setLevelOf_of (s : State) (k : StackNo) {l : Byte} (low : 1 ≤ l.toNat) (high : l.toNat ≤ 7) :
    s.setLevelOf (BitVec.ofNat 8 k.val) l = if s.levelFree k then
      okay (s.modStack k fun r => { r with level := l.toNat }) else refuse s .busy := by
  simp only [setLevelOf,
    withFields_of (both_of_ok (stackNo_ofNat k) (needRange_of (decide_eq_true (And.intro low high))))]

theorem takeStoreCue_header (s : State) (k l : Byte) : takeStoreCue [k, 0, 0, l] s = s.setLevelOf k l := by
  have header : be16 0 0 = 0 := by simp [be16]
  simp only [takeStoreCue, header, if_true]
  rfl

/-- Settles O38: HALT and RESET_STACK at once, and the level where the stack is free for it. -/
theorem stacksAreHaltedAndLevelled : Obligations.StacksAreHaltedAndLevelled := by
  refine ⟨fun s p tag k quiet ready allowed => ⟨?_, ?_⟩, fun s p tag l k quiet ready allowed low high => ?_⟩
  · refine State.request_next ready (by exact quiet) (by simp) ?_
    rw [State.answer_stack rfl rfl (by simp [AccessUnit.lockedOut]) _ rfl allowed, takeByCode_10]
    simp only [takeHalt, withFields_of (stackNo_ofNat k)]
    rw [show StackRec.halt = _ from funext StackRec.halt_eq]
    rfl
  · refine State.request_next ready (by exact quiet) (by simp) ?_
    rw [State.answer_stack rfl rfl (by simp [AccessUnit.lockedOut]) _ rfl allowed, takeByCode_11]
    simp only [takeResetStack, withFields_of (stackNo_ofNat k), StackRec.haltAt, StackRec.halt_eq]
    rfl
  · intro set header stored
    have levels := s.setLevelOf_of k low high
    have bySet {u : State} {code : ReplyCode} (keeps : u.ports = s.ports)
        (effect : s.setLevelOf (BitVec.ofNat 8 k.val) l = ⟨code, [], u⟩) :
        exec set s = .next (u.replied p 0x0D tag code s.ref.counter []) := by
      refine State.request_next ready (quiet.of_ports keeps) (by simp) ?_
      rw [State.answer_stack rfl rfl (by simp [AccessUnit.lockedOut]) _ rfl allowed, takeByCode_0d]
      exact effect
    have byHeader {u : State} {code : ReplyCode} (keeps : u.ports = s.ports)
        (effect : s.setLevelOf (BitVec.ofNat 8 k.val) l = ⟨code, [], u⟩) :
        exec header s = .next (u.replied p 0x0B tag code s.ref.counter []) := by
      refine State.request_next (payload := [BitVec.ofNat 8 k.val, 0, 0, l]) ready (quiet.of_ports keeps) (by simp) ?_
      rw [State.answer_stack rfl rfl (by simp [AccessUnit.lockedOut]) _ rfl allowed, takeByCode_0b, takeStoreCue_header]
      exact effect
    refine ⟨fun rests free => ?_, fun busy => ?_⟩
    · rw [State.levelFree_of_rests rests free, if_pos rfl] at levels
      exact ⟨bySet rfl levels, byHeader rfl levels⟩
    · rw [State.levelFree_of_busy busy, if_neg Bool.false_ne_true] at levels
      exact ⟨bySet rfl levels, byHeader rfl levels⟩

end Sys2Proof.Machine
end

section
/-! PROOF. Cues stored and deleted, levels released, safety, and SHOW_RESET with the alerts that it raises. -/

namespace Sys2Proof.Machine

/-! ### STORE_CUE and DELETE_CUE (R94, R97) -/

/-- A cue record takes at most 203 bytes (R89). -/
theorem cueBody_short {l : List Byte} {body : CueBody} (h : cueBody l = .ok body) : l.length ≤ 203 := by
  unfold cueBody at h
  split at h
  · dsimp only at h
    split at h
    · cases h
    · rename_i range
      simp only [Bool.or_eq_true, decide_eq_true_eq, not_or, Nat.not_lt, not_not] at range
      simp only [List.length_cons]
      omega
  · cases h

theorem takeStoreCue_of {s : State} {k : StackNo} {n1 n0 : Byte} {rest : List Byte} {body : CueBody}
    (low : 1 ≤ be16 n1 n0) (high : be16 n1 n0 ≤ 9999) (decoded : cueBody rest = .ok body) :
    takeStoreCue (BitVec.ofNat 8 k.val :: n1 :: n0 :: rest) s = s.storeCue ⟨k, be16 n1 n0, body⟩ := by
  have fields := both_of_ok decoded (both_of_ok (stackNo_ofNat k) (needRange_of (decide_eq_true high)))
  simp only [takeStoreCue, if_neg (Nat.one_le_iff_ne_zero.1 low), withFields_of fields]

section
variable {s : State} {q : Cue}

theorem State.storeCue_replaces {old : Cue} (stands : s.cue.find q.stack q.number = some old)
    (room : s.cue.usedSlots + q.body.actions.length ≤ 4096 + old.body.actions.length) :
    s.storeCue q = okay { s with cue := { s.cue with store := insertCue q s.cue.store } } := by
  have fits : q.body.actions.length ≤ s.cue.freeSlots + old.body.actions.length := by
    unfold CueUnit.freeSlots
    omega
  simp only [storeCue, stands, decide_eq_true fits, if_true]

theorem State.storeCue_adds (absent : s.cue.find q.stack q.number = none) (records : s.cue.store.length < 1024)
    (slots : s.cue.usedSlots + q.body.actions.length ≤ 4096) :
    s.storeCue q = okay { s with cue := { s.cue with store := insertCue q s.cue.store } } := by
  have fits : 1 ≤ s.cue.freeRecords ∧ q.body.actions.length ≤ s.cue.freeSlots := by
    unfold CueUnit.freeRecords CueUnit.freeSlots
    omega
  simp only [storeCue, absent, decide_eq_true fits, if_true]

theorem State.storeCue_full (absent : s.cue.find q.stack q.number = none) (full : 1024 ≤ s.cue.store.length) :
    s.storeCue q = refuse s .noSpace := by
  have fits : ¬ (1 ≤ s.cue.freeRecords ∧ q.body.actions.length ≤ s.cue.freeSlots) := by
    unfold CueUnit.freeRecords
    omega
  simp only [storeCue, absent, decide_eq_false fits, Bool.false_eq_true, if_false]

end

section
variable {s : State} {k : StackNo} {n1 n0 : Byte}

theorem takeDeleteCue_of (low : 1 ≤ be16 n1 n0) (high : be16 n1 n0 ≤ 9999) :
    takeDeleteCue [BitVec.ofNat 8 k.val, n1, n0] s = if s.cue.find k (be16 n1 n0) = none then refuse s .notFound
      else okay ({ s with cue := s.cue.without k (be16 n1 n0) }.afterDelete k (be16 n1 n0)) := by
  have fields := both_of_ok (stackNo_ofNat k) (needRange_of (decide_eq_true (And.intro low high)))
  simp only [takeDeleteCue, withFields_of fields]
  cases s.cue.find k (be16 n1 n0) <;> rfl

theorem State.afterDelete_at {n : Nat} (at' : (s.cue.recs[k]).position = some n) :
    s.afterDelete k n = s.modStack k fun r => r.haltAt (s.cue.next k n) := by
  rw [afterDelete, if_pos at']

theorem State.afterDelete_loop {n : Nat} (at' : (s.cue.recs[k]).position ≠ some n)
    (loop : ((s.cue.recs[k]).loop.map LoopContext.startCue) = some n) :
    s.afterDelete k n = s.modStack k fun r => { r with loop := none } := by
  rw [afterDelete, if_neg at', if_pos loop]

theorem State.afterDelete_apart {n : Nat} (at' : (s.cue.recs[k]).position ≠ some n)
    (loop : ((s.cue.recs[k]).loop.map LoopContext.startCue) ≠ some n) : s.afterDelete k n = s := by
  rw [afterDelete, if_neg at', if_neg loop]

end

theorem StackRec.haltAt_eq (r : StackRec) (pos : Option Nat) : r.haltAt pos = { r with
    position := pos, state := if pos = none then .ended else .idle, loop := none, chainedGo := false
    pendingGo := false } := by
  rw [haltAt, halt_eq]

/-- The store that DELETE_CUE leaves, its filter written without a Boolean negation. -/
theorem CueUnit.without_eq (c : CueUnit) (k : StackNo) (n : Nat) : c.without k n =
    { c with store := c.store.filter fun q => decide (¬ (q.stack = k ∧ q.number = n)) } := by
  unfold without
  simp only [decide_not]

/-- Settles O39: the free pools decide a store, the record in the list a deletion. -/
theorem cuesAreStoredAndDeleted : Obligations.CuesAreStoredAndDeleted := by
  refine ⟨fun s p tag n1 n0 rest k body quiet ready allowed low high decoded => ?_,
    fun s p tag n1 n0 k quiet ready allowed low high => ?_⟩
  · intro c stored
    have fits : (BitVec.ofNat 8 k.val :: n1 :: n0 :: rest).length ≤ 1020 := by
      have := cueBody_short decoded
      simp only [List.length_cons]
      omega
    have passes : s.answer p 0x0B (BitVec.ofNat 8 k.val :: n1 :: n0 :: rest) = s.storeCue ⟨k, be16 n1 n0, body⟩ := by
      rw [State.answer_stack rfl rfl (by simp [AccessUnit.lockedOut]) _ rfl allowed, takeByCode_0b,
        takeStoreCue_of low high decoded]
    have stores (effect : s.storeCue ⟨k, be16 n1 n0, body⟩ =
        okay { s with cue := { s.cue with store := insertCue ⟨k, be16 n1 n0, body⟩ s.cue.store } }) : stored := by
      refine ⟨_, State.request_next ready (by exact quiet) fits (passes.trans effect), rfl, ?_, fun j m other => ?_⟩
      · rw [CueUnit.find_eq, findCue_insertCue, if_pos ⟨rfl, rfl⟩]
      · rw [CueUnit.find_eq, findCue_insertCue, if_neg fun same => other ⟨same.1.symm, same.2.symm⟩, CueUnit.find_eq]
    exact ⟨fun old stands room => stores (State.storeCue_replaces stands room),
      fun absent => ⟨fun records slots => stores (State.storeCue_adds absent records slots),
        fun full => State.request_next ready quiet fits (passes.trans (State.storeCue_full absent full))⟩⟩
  · intro n c left
    have leaves : left = s.cue.without k n := (CueUnit.without_eq _ _ _).symm
    have passes : s.answer p 0x0C [BitVec.ofNat 8 k.val, n1, n0] =
        if s.cue.find k n = none then refuse s .notFound else okay ({ s with cue := s.cue.without k n }.afterDelete k n) := by
      rw [State.answer_stack rfl rfl (by simp [AccessUnit.lockedOut]) _ rfl allowed, takeByCode_0c,
        takeDeleteCue_of low high]
    refine ⟨fun absent => ?_, fun stands => ?_⟩
    · exact State.request_next ready quiet (by simp) (passes.trans (if_pos absent))
    · have found : s.cue.find k n ≠ none := by
        intro absent
        rw [absent] at stands
        cases stands
      rw [if_neg found] at passes
      rw [leaves]
      refine ⟨fun at' => ?_, fun x at' loop same => ?_, fun at' loop => ?_⟩
      · rw [State.afterDelete_at (s := { s with cue := s.cue.without k n }) at'] at passes
        simp only [StackRec.haltAt_eq] at passes
        exact State.request_next ready (by exact quiet) (by simp) passes
      · rw [State.afterDelete_loop (s := { s with cue := s.cue.without k n }) at' ((congrArg _ loop).trans (congrArg some same))] at passes
        exact State.request_next ready (by exact quiet) (by simp) passes
      · rw [State.afterDelete_apart (s := { s with cue := s.cue.without k n }) at' ?_] at passes
        · exact State.request_next ready (by exact quiet) (by simp) passes
        · intro same
          obtain ⟨x, is, at_n⟩ := Option.map_eq_some_iff.1 same
          exact loop x is at_n

/-! ### RELEASE_LEVEL (R122) -/

theorem PreEntry.isLevel_iff (e : PreEntry) (l : Nat) : e.isLevel l = true ↔ ∃ k, e = .level l k := by
  cases e with
  | safety => simp [isLevel]
  | level m k => simp [isLevel]

theorem TakeoverUnit.holder_none {t : TakeoverUnit} {l : Nat} (free : ∀ k, PreEntry.level l k ∉ t.stack) :
    t.holder l = none := by
  cases found : t.holder l with
  | none => rfl
  | some k => exact absurd (TakeoverUnit.mem_of_holder found) (free k)

theorem takeReleaseLevel_of (s : State) (l f1 f0 : Byte) : takeReleaseLevel [l, f1, f0] s =
    if isTakeover l.toNat = false then refuse s .range else
      (s.takeover.holder l.toNat).elim (refuse s .notFound) fun k => okay (s.release l.toNat k (be16 f1 f0)) := by
  unfold takeReleaseLevel
  dsimp only
  cases isTakeover l.toNat <;> cases s.takeover.holder l.toNat <;> rfl

theorem State.itemsNamed_level (s : State) (p : Port) (l : Byte) (rest : List Byte) :
    s.itemsNamed p 0x12 (l :: rest) = ((s.takeover.holder l.toNat).map Item.stack).toList := rfl

/-- Settles O41: without a holder the request is refused, with one its level is released. -/
theorem levelsAreReleased : Obligations.LevelsAreReleased := by
  intro s p tag l f1 f0 quiet ready c
  have passes (allowed : ∀ k, s.takeover.holder l.toNat = some k → s.access.denied (some p) (.stack k) = false) :
      s.answer p 0x12 [l, f1, f0] = takeReleaseLevel [l, f1, f0] s := by
    refine State.answer_passes rfl (fun yes => nomatch yes) (by simp [AccessUnit.lockedOut]) fun i there => ?_
    rw [State.itemsNamed_level, Option.mem_toList] at there
    obtain ⟨k, holder, rfl⟩ := Option.map_eq_some_iff.1 there
    exact allowed k holder
  have nobody (free : ∀ k, PreEntry.level l.toNat k ∉ s.takeover.stack) := TakeoverUnit.holder_none free
  refine ⟨fun low free => ?_, fun takeover free => ?_, fun k takeover holder allowed => ?_⟩
  · refine State.request_next ready quiet (by simp) ((passes fun k is => ?_).trans ?_)
    · rw [nobody free] at is; cases is
    · rw [takeReleaseLevel_of, if_pos low]; rfl
  · refine State.request_next ready quiet (by simp) ((passes fun k is => ?_).trans ?_)
    · rw [nobody free] at is; cases is
    · rw [takeReleaseLevel_of, if_neg (by simp [takeover]), nobody free]; rfl
  · intro u
    refine State.request_notices ready (by simp) ((passes fun j is => ?_).trans ?_)
    · rw [holder] at is
      cases is
      exact allowed
    · have entries : (s.takeover.stack.filter fun e => !e.isLevel l.toNat) =
          s.takeover.stack.filter fun e => decide (∀ j, e ≠ PreEntry.level l.toNat j) := by
        refine List.filter_congr fun e _ => ?_
        rw [Bool.eq_iff_iff, Bool.not_eq_true', decide_eq_true_eq, ← Bool.not_eq_true, PreEntry.isLevel_iff, not_exists]
      have overrides : (s.takeover.overrides.filter fun e => e.level != l.toNat) =
          s.takeover.overrides.filter fun e => decide (e.level ≠ l.toNat) :=
        List.filter_congr fun e _ => by rw [Bool.eq_iff_iff, bne_iff_ne, decide_eq_true_eq]
      rw [takeReleaseLevel_of, if_neg (by simp [takeover]), holder]
      simp only [Option.elim_some, State.release, entries, overrides, show StackRec.halt = _ from funext StackRec.halt_eq]
      rfl

/-! ### Safety (R128) -/

/-- The state in which safety has followed the input and the latch. -/
def State.safetyAt (s : State) (e l : Bool) : State :=
  let u : State := { s with takeover := { s.takeover with emergency := e, latch := l } }
  if (s.takeover.emergency || s.takeover.latch) = (e || l) then u
  else if e || l then
    ({ u with takeover := { u.takeover with stack := s.takeover.stack ++ [PreEntry.safety] } }).raiseRouted
      (.safetyChange true e l s.ref.counter)
  else
    ({ u with takeover := { u.takeover with
      stack := s.takeover.stack.filter fun x => decide (x ≠ PreEntry.safety) } }).raiseRouted
      (.safetyChange false e l s.ref.counter)

theorem State.setSafety_safetyAt (s : State) (e l : Bool) : s.setSafety e l = s.safetyAt e l := by
  unfold setSafety safetyAt raiseSafety TakeoverUnit.inForce
  cases was : (s.takeover.emergency || s.takeover.latch) <;> cases is : (e || l) <;> simp [is, setEntries]

/-- Settles O42: the input alone and the request alone both set safety from the two. -/
theorem safetyFollowsInputAndLatch : Obligations.SafetyFollowsInputAndLatch := by
  intro s e l quiet u result
  have follows : s.setSafety e l = result := s.setSafety_safetyAt e l
  refine ⟨fun same => ?_, fun p tag ready engineer same => ?_⟩
  · show (s.setSafety e s.takeover.latch).done = _
    rw [← same, follows]
    rfl
  · refine State.request_notices ready (by simp) ?_
    have coded : flag? (if l then 1 else 0) = some l := by cases l <;> rfl
    rw [State.answer_engineer rfl engineer (by simp [AccessUnit.lockedOut]) rfl, takeByCode_24]
    simp only [takeSetSafety, coded]
    rw [← follows, same]
    rfl

/-! ### Several alerts together (R182) -/

/-- The alerts of a list that are raised to one port. -/
def raisedTo (l : List (PortSet × Alert)) (q : Port) : List (PortSet × Alert) := l.filter fun x => x.1.getLsbD q.val

/-- What a list of alerts of one kind leaves in a port's alert set: one of them, and their number counted. -/
def PortState.Received (x y : PortState) (k : Fin 22) (l : List (PortSet × Alert)) : Prop :=
  (l = [] → y.alerts[k] = x.alerts[k]) ∧
  (l ≠ [] → ∃ e ∈ l, y.alerts[k] = some ⟨e.2, min 255 (((x.alerts[k]).map AlertEntry.count).getD 0 + l.length)⟩)

theorem PortState.Received.more {x y : PortState} {k : Fin 22} {l : List (PortSet × Alert)} (h : x.Received y k l)
    {e : PortSet × Alert} (kind : e.2.kind = k) : x.Received (y.receive e.2) k (l ++ [e]) := by
  obtain ⟨nothing, some⟩ := h
  refine ⟨fun empty => by simp at empty, fun _ => ⟨e, by simp, ?_⟩⟩
  rw [receive_alerts, if_pos kind.symm, List.length_append, List.length_singleton]
  congr 1
  unfold AlertEntry.more
  congr 1
  by_cases before : l = []
  · rw [nothing before, before]
    cases x.alerts[k] with
    | none => rfl
    | some e =>
      simp only [satSucc, List.length_nil, Option.map_some, Option.getD_some]
      split <;> omega
  · obtain ⟨y, -, is⟩ := some before
    rw [is]
    simp only [satSucc]
    split <;> omega

theorem State.raiseAll_alerts (s : State) (l : List (PortSet × Alert)) (q : Port) {k : Fin 22}
    (kinds : ∀ x ∈ l, x.2.kind = k) :
    (s.ports.port[q]).Received ((l.foldl (fun s x => s.raiseTo x.1 x.2) s).ports.port[q]) k (raisedTo l q) := by
  induction l using List.reverseRecOn with
  | nil => exact ⟨fun _ => rfl, fun some => absurd rfl some⟩
  | append_singleton l x ih =>
    have before := ih fun y there => kinds y (List.mem_append_left _ there)
    have kind : x.2.kind = k := kinds x (by simp)
    rw [List.foldl_append, List.foldl_cons, List.foldl_nil, State.raiseTo_at, raisedTo, List.filter_append]
    by_cases into : x.1.getLsbD q.val = true
    · have one : [x].filter (fun y => y.1.getLsbD q.val) = [x] := by simp [into]
      rw [one, if_pos into]
      exact before.more kind
    · have nothing : [x].filter (fun y => y.1.getLsbD q.val) = [] := by
        rw [List.filter_singleton, Bool.eq_false_iff.2 into]
        rfl
      rw [nothing, List.append_nil, if_neg into]
      exact before

/-- Alerts of other kinds leave the entry of a kind alone. -/
theorem State.raiseAll_other (s : State) (l : List (PortSet × Alert)) (q : Port) {k : Fin 22}
    (kinds : ∀ x ∈ l, x.2.kind ≠ k) :
    ((l.foldl (fun s x => s.raiseTo x.1 x.2) s).ports.port[q]).alerts[k] = (s.ports.port[q]).alerts[k] := by
  induction l generalizing s with
  | nil => rfl
  | cons x l ih =>
    rw [List.foldl_cons, ih _ fun y there => kinds y (List.mem_cons_of_mem _ there), State.raiseTo_at]
    split
    · rw [PortState.receive_alerts, if_neg fun same => kinds x List.mem_cons_self same.symm]
    · rfl

/-- Alerts raised together are raised one after the other, in an order that is free (log entry 8). -/
theorem State.raiseTogether_ports (s : State) (l : List (PortSet × Alert)) : ∃ l' : List (PortSet × Alert), l'.Perm l ∧
    (s.raiseTogether l).ports = (l'.foldl (fun s x => s.raiseTo x.1 x.2) s).ports := by
  have choice (c : Nat) (l : List (PortSet × Alert)) :
      (l.foldl (fun (s : State) x => s.raiseTo x.1 x.2) { s with choices := c }).ports =
        (l.foldl (fun (s : State) x => s.raiseTo x.1 x.2) s).ports := by
    induction l generalizing s with
    | nil => rfl
    | cons x l ih => exact ih (s.raiseTo x.1 x.2)
  unfold raiseTogether
  split
  · exact ⟨[], .refl _, rfl⟩
  · exact ⟨_, .refl _, rfl⟩
  · exact ⟨_, arrange_perm _ _, choice _ _⟩

theorem State.raiseTogether_alerts (s : State) (l : List (PortSet × Alert)) (q : Port) {k : Fin 22}
    (kinds : ∀ x ∈ l, x.2.kind = k) :
    (s.ports.port[q]).Received ((s.raiseTogether l).ports.port[q]) k (raisedTo l q) := by
  obtain ⟨l', perm, same⟩ := s.raiseTogether_ports l
  have hits : (raisedTo l' q).Perm (raisedTo l q) := perm.filter _
  obtain ⟨none, some'⟩ := s.raiseAll_alerts l' q fun x there => kinds x (perm.mem_iff.1 there)
  rw [same]
  refine ⟨fun empty => none (hits.trans (.of_eq empty)).eq_nil, fun some => ?_⟩
  obtain ⟨x, there, is⟩ := some' fun empty => some (hits.symm.trans (.of_eq empty)).eq_nil
  exact ⟨x, hits.mem_iff.1 there, hits.length_eq ▸ is⟩

theorem State.raiseTogether_other (s : State) (l : List (PortSet × Alert)) (q : Port) {k : Fin 22}
    (kinds : ∀ x ∈ l, x.2.kind ≠ k) :
    ((s.raiseTogether l).ports.port[q]).alerts[k] = (s.ports.port[q]).alerts[k] := by
  obtain ⟨l', perm, same⟩ := s.raiseTogether_ports l
  rw [same]
  exact s.raiseAll_other l' q fun x there => kinds x (perm.mem_iff.1 there)

theorem State.raiseTogether_routing (s : State) (l : List (PortSet × Alert)) :
    (s.raiseTogether l).ports.routing = s.ports.routing := by
  obtain ⟨l', -, same⟩ := s.raiseTogether_ports l
  rw [same]
  clear same
  induction l' generalizing s with
  | nil => rfl
  | cons x l ih => exact ih (s.raiseTo x.1 x.2)

theorem onlyPort_iff (p q : Port) : (onlyPort p).getLsbD q.val = true ↔ p = q := by
  revert p q
  decide

/-! ### SHOW_RESET (R129, R154) -/

/-- What SHOW_RESET puts back, before its alerts. -/
def State.showCleared (s : State) : State :=
  { s with
    scene := { s.scene with trans := .idle }
    cue := s.cue.restart
    tally := { s.tally with queue := [] }
    takeover := { s.takeover with
      stack := s.takeover.stack.filter fun e => decide (e = .safety)
      overrides := [] }
    level := { s.level with releaseFade := 0 } }

/-- The claims without their contests. -/
def State.uncontested (s : State) : State :=
  { s with access := { s.access with
    claims := mapTab (fun e : Option Claim => e.map fun c : Claim => { c with contest := none }) s.access.claims } }

/-- The alerts to the ports that waited for a claim. -/
def State.endedHandovers (s : State) : List (PortSet × Alert) :=
  (List.finRange 64).filterMap fun id =>
    match s.access.claims[id] with
    | some c => c.contest.map fun w : Contest => (onlyPort w.waiting, Alert.handoverTimeout id .reset s.ref.counter)
    | none => none

/-- The state after the takeover's part of a reset: TAKEOVER_CHANGE is raised where a takeover level was removed. -/
def State.takeoverReset (s : State) : State :=
  if s.takeover.stack.any fun e => decide (e ≠ .safety) then s.showCleared.raiseTakeover .reset none else s.showCleared

theorem State.showReset_eq (s : State) :
    s.showReset = s.takeoverReset.uncontested.raiseTogether s.takeoverReset.endedHandovers := rfl

theorem State.takeoverReset_eq (s : State) :
    s.takeoverReset = { s.showCleared with ports := s.takeoverReset.ports } ∧
      s.takeoverReset.ports.routing = s.ports.routing := by
  unfold takeoverReset
  split <;> exact ⟨rfl, rfl⟩

theorem Alert.kind_takeoverChange (cause : TakeoverCause) (holder : Option (Nat × StackNo)) (mask : Nat) (now : Frame) :
    (Alert.takeoverChange cause holder mask now).kind = 17 := rfl

theorem State.routingSet_takeover (s : State) (cause : TakeoverCause) (holder : Option (Nat × StackNo)) (mask : Nat)
    (now : Frame) : s.routingSet (.takeoverChange cause holder mask now) = s.ports.routing[(13 : Fin 16)] := rfl

theorem State.takeoverReset_alerts (s : State) (q : Port) (k : Fin 22) :
    (s.takeoverReset.ports.port[q]).alerts[k] =
      if k = 17 ∧ (∃ e ∈ s.takeover.stack, e ≠ .safety) ∧ (s.ports.routing[(13 : Fin 16)]).getLsbD q.val = true then
        some (.more (.takeoverChange .reset none s.showCleared.takeover.mask s.ref.counter) (s.ports.port[q]).alerts[k])
      else (s.ports.port[q]).alerts[k] := by
  have levels : (s.takeover.stack.any fun e => decide (e ≠ .safety)) = true ↔ ∃ e ∈ s.takeover.stack, e ≠ .safety := by
    simp
  unfold takeoverReset
  by_cases removed : ∃ e ∈ s.takeover.stack, e ≠ .safety
  · rw [if_pos (levels.2 removed)]
    show ((State.raiseTo _ _ _).ports.port[q]).alerts[k] = _
    rw [State.raiseTo_at, State.routingSet_takeover, show s.showCleared.ports = s.ports from rfl]
    by_cases routed : (s.ports.routing[(13 : Fin 16)]).getLsbD q.val = true
    · rw [if_pos routed, PortState.receive_alerts, Alert.kind_takeoverChange]
      by_cases kind : k = 17
      · rw [if_pos kind, if_pos ⟨kind, removed, routed⟩]
        rfl
      · rw [if_neg kind, if_neg fun all => kind all.1]
    · rw [if_neg routed, if_neg fun all => routed all.2.2]
  · rw [if_neg (mt levels.1 removed), if_neg fun all => removed all.2.1]
    rfl

theorem State.mem_endedHandovers {s : State} {x : PortSet × Alert} (h : x ∈ s.endedHandovers) :
    ∃ (id : ClaimId) (c : Claim) (w : Contest), s.access.claims[id] = some c ∧ c.contest = some w ∧
      x = (onlyPort w.waiting, .handoverTimeout id .reset s.ref.counter) := by
  obtain ⟨id, -, is⟩ := List.mem_filterMap.1 h
  cases used : s.access.claims[id] with
  | none => rw [used] at is; cases is
  | some c =>
    rw [used] at is
    obtain ⟨w, contested, rfl⟩ := Option.map_eq_some_iff.1 is
    exact ⟨id, c, w, used, contested, rfl⟩

/-- A port is told once for each claim that it waited for. -/
theorem State.raisedTo_endedHandovers (s : State) (q : Port) : raisedTo s.endedHandovers q =
    ((List.finRange 64).filter fun id =>
      decide (((s.access.claims[id]).bind Claim.contest).map Contest.waiting = some q)).map fun id =>
        (onlyPort q, .handoverTimeout id .reset s.ref.counter) := by
  unfold raisedTo endedHandovers
  rw [List.filter_filterMap, ← List.filterMap_eq_map, List.filterMap_filter]
  refine congrArg (List.filterMap · _) (funext fun id => ?_)
  cases s.access.claims[id] with
  | none => rfl
  | some c =>
    cases contest : c.contest with
    | none => simp [contest]
    | some w =>
      by_cases waits : w.waiting = q
      · subst waits
        have into := (onlyPort_iff w.waiting w.waiting).2 rfl
        simp only [contest, Option.map_some, Option.bind_some, Option.filter, into, decide_true, if_true, Function.comp]
      · have out := Bool.eq_false_iff.2 (mt (onlyPort_iff w.waiting q).1 waits)
        simp only [contest, Option.map_some, Option.bind_some, Option.filter, out, Option.some.injEq, waits, decide_false,
          Bool.false_eq_true, if_false]

/-- With the takeover levels removed, the mask stands at safety or at nothing. -/
theorem State.showCleared_mask {s : State} (legal : s.preemptionLegal) :
    s.showCleared.takeover.mask = if s.takeover.inForce then 8 else 0 := by
  obtain ⟨-, -, safety⟩ := legal
  unfold TakeoverUnit.mask
  show (match (s.takeover.stack.filter fun e => decide (e = PreEntry.safety)).getLast? with
    | some e => e.rank
    | none => 0) = _
  cases last : (s.takeover.stack.filter fun e => decide (e = PreEntry.safety)).getLast? with
  | none =>
    have empty := List.getLast?_eq_none_iff.1 last
    have out : PreEntry.safety ∉ s.takeover.stack := fun there => by
      have := List.filter_eq_nil_iff.1 empty _ there
      simp at this
    rw [if_neg (mt safety.2 out)]
  | some e =>
    obtain ⟨there, is⟩ := List.mem_filter.1 (List.mem_of_getLast? last)
    have same := of_decide_eq_true is
    rw [if_pos (safety.1 (same ▸ there)), same]
    rfl

theorem PortState.startNotice_tx {x : PortState} {tx : TxFrame} (sends : x.tx = some tx) (now : Frame) :
    (x.startNotice now).tx = some tx := by
  unfold startNotice
  rw [sends]
  exact sends

theorem State.replied_alerts (s : State) (p q : Port) (code tag : Byte) (result : ReplyCode) (now : Frame)
    (data : List Byte) : ((s.replied p code tag result now data).ports.port[q]).alerts = (s.ports.port[q]).alerts := by
  unfold replied
  rw [State.modPort_at]
  split
  next same => rw [same]
  next => rfl

/-- Alerts raised together change the ports, and the count of free orders. -/
theorem State.raiseTogether_shape (s : State) (l : List (PortSet × Alert)) :
    ∃ ports choices, s.raiseTogether l = { s with ports, choices } := by
  have raised (l : List (PortSet × Alert)) (u : State) :
      ∃ ports, l.foldl (fun s x => s.raiseTo x.1 x.2) u = { u with ports } := by
    induction l generalizing u with
    | nil => exact ⟨_, rfl⟩
    | cons x l ih => exact ih (u.raiseTo x.1 x.2)
  unfold raiseTogether
  split
  · exact ⟨_, _, rfl⟩
  · exact ⟨_, _, rfl⟩
  · obtain ⟨ports, is⟩ := raised (arrange (Config.alertOrder s.choices) l) { s with choices := s.choices + 1 }
    exact ⟨ports, _, is⟩

theorem State.showReset_shape (s : State) :
    ∃ ports choices, s.showReset = { s.showCleared.uncontested with ports, choices } := by
  obtain ⟨ports, choices, is⟩ := s.takeoverReset.uncontested.raiseTogether_shape s.takeoverReset.endedHandovers
  refine ⟨ports, choices, s.showReset_eq.trans (is.trans ?_)⟩
  rw [s.takeoverReset_eq.1]
  rfl

theorem State.showReset_routing (s : State) : s.showReset.ports.routing = s.ports.routing := by
  rw [showReset_eq, State.raiseTogether_routing]
  exact s.takeoverReset_eq.2

/-- The claims that a port waits for. -/
def State.waitsFor (s : State) (q : Port) : List ClaimId :=
  (List.finRange 64).filter fun id => decide (((s.access.claims[id]).bind Claim.contest).map Contest.waiting = some q)

/-- The handovers that a reset ends are told under kind 16, once each. -/
theorem State.showReset_handovers (s : State) (q : Port) :
    (s.ports.port[q]).Received (s.showReset.ports.port[q]) 16
      ((s.waitsFor q).map fun id => (onlyPort q, .handoverTimeout id .reset s.ref.counter)) := by
  have kinds : ∀ x ∈ s.takeoverReset.endedHandovers, x.2.kind = 16 := fun x there => by
    obtain ⟨id, c, w, -, -, rfl⟩ := State.mem_endedHandovers there
    rfl
  have told := s.takeoverReset.uncontested.raiseTogether_alerts s.takeoverReset.endedHandovers q kinds
  rw [← showReset_eq, State.raisedTo_endedHandovers] at told
  have before : (s.takeoverReset.uncontested.ports.port[q]).alerts[(16 : Fin 22)] = (s.ports.port[q]).alerts[(16 : Fin 22)] := by
    refine (s.takeoverReset_alerts q 16).trans (if_neg fun all => ?_)
    exact absurd all.1 (by decide)
  have same : s.takeoverReset.access = s.access ∧ s.takeoverReset.ref = s.ref := by
    rw [s.takeoverReset_eq.1]; exact ⟨rfl, rfl⟩
  unfold PortState.Received at told
  rw [before, same.1, same.2] at told
  exact told

theorem State.showReset_others (s : State) (q : Port) {k : Fin 22} (other : k ≠ 16) :
    (s.showReset.ports.port[q]).alerts[k] = (s.takeoverReset.ports.port[q]).alerts[k] := by
  rw [showReset_eq]
  refine State.raiseTogether_other _ _ q fun x there => ?_
  obtain ⟨id, c, w, -, -, rfl⟩ := State.mem_endedHandovers there
  exact other.symm

theorem AlertEntry.more_eq (a : Alert) (e : Option AlertEntry) :
    AlertEntry.more a e = ⟨a, min 255 ((e.map AlertEntry.count).getD 0 + 1)⟩ := by
  unfold AlertEntry.more
  cases e with
  | none => rfl
  | some e =>
    simp only [satSucc, Option.map_some, Option.getD_some]
    congr 1
    split <;> omega

/-- Settles O43: what is cleared, and the alerts by their kinds: TAKEOVER_CHANGE at most once, HANDOVER_TIMEOUT once for
each claim that the port waited for. -/
theorem showResetClearsTheShow : Obligations.ShowResetClearsTheShow := by
  intro s p tag quiet ready engineer
  obtain ⟨ports, choices, is⟩ := s.showReset_shape
  have answer : s.answer p 0x27 [] = ⟨.ok, [], s.showReset⟩ := by
    rw [State.answer_engineer rfl engineer (by simp [AccessUnit.lockedOut]) rfl, takeByCode_27]
    rfl
  have resets := State.request_notices (tag := tag) ready (by simp) answer
  have alerts (q : Port) : ((s.showReset.replied p 0x27 tag .ok s.ref.counter []).startNotices.ports.port[q]).alerts =
      (s.showReset.ports.port[q]).alerts := by rw [State.startNotices_alerts, State.replied_alerts]
  have fields : (s.showReset.replied p 0x27 tag .ok s.ref.counter []).startNotices =
      { s.showCleared.uncontested with
        ports := (s.showReset.replied p 0x27 tag .ok s.ref.counter []).startNotices.ports, choices } := by
    rw [is]; rfl
  refine ⟨_, resets, ?_⟩
  have routing : (s.showReset.replied p 0x27 tag .ok s.ref.counter []).startNotices.ports.routing = s.ports.routing :=
    s.showReset_routing
  have sends : ((s.showReset.replied p 0x27 tag .ok s.ref.counter []).startNotices.ports.port[p]).tx =
      some (.reply 0x27 tag .ok s.ref.counter []) := by
    rw [State.startNotices_at]
    refine PortState.startNotice_tx ?_ _
    rw [State.replied, State.modPort_at, if_pos rfl]
  generalize (s.showReset.replied p 0x27 tag .ok s.ref.counter []).startNotices = t at alerts fields routing sends
  refine ⟨congrArg State.scene fields, congrArg State.level fields, congrArg State.takeover fields,
    congrArg State.tally fields, ?_, fun id => ?_, ?_, fun k => ?_, (congrArg State.ref fields :), (congrArg State.wall fields :),
    (congrArg State.lines fields :), (congrArg State.image fields :), routing, sends, fun legal => ?_, fun q => ?_⟩
  · rw [congrArg State.access fields]; rfl
  · rw [congrArg State.access fields]
    simp [State.uncontested, State.showCleared]
  · rw [congrArg State.cue fields]; rfl
  · rw [congrArg State.cue fields]
    simp [State.uncontested, State.showCleared, CueUnit.restart, StackRec.restart, StackRec.haltAt_eq]
  · rw [congrArg State.takeover fields]
    exact State.showCleared_mask legal
  · have mask : t.takeover.mask = s.showCleared.takeover.mask := by rw [congrArg State.takeover fields]; rfl
    have others {k : Fin 22} (other : k ≠ 16) : (t.ports.port[q]).alerts[k] = _ :=
      (alerts q ▸ s.showReset_others q other).trans (s.takeoverReset_alerts q k)
    obtain ⟨nothing, told⟩ := s.showReset_handovers q
    rw [← alerts q] at nothing told
    refine ⟨fun removed routed => ?_, fun stays => ?_, fun waits => ?_, fun waits => ?_, fun k other apart => ?_⟩
    · beta_reduce
      rw [others (k := 17) (by decide), if_pos ⟨rfl, removed, routed⟩, AlertEntry.more_eq, mask]
    · beta_reduce
      rw [others (k := 17) (by decide), if_neg]
      rintro ⟨-, ⟨e, there, level⟩, routed⟩
      rcases stays with safety | out
      · exact level (safety e there)
      · exact Bool.false_ne_true (out.symm.trans routed)
    · obtain ⟨x, there, is⟩ := told fun empty => waits (List.map_eq_nil_iff.1 empty)
      obtain ⟨id, among, rfl⟩ := List.mem_map.1 there
      rw [List.length_map] at is
      exact ⟨id, among, is⟩
    · exact nothing (List.map_eq_nil_iff.2 waits)
    · exact (others other).trans (if_neg fun all => apart all.1)

end Sys2Proof.Machine
end

section
/-! PROOF. The bank requests: what the guards leave of a set of writes, and what the writes make of a bank. -/

namespace Sys2Proof.Machine

/-! ### Banks and writes -/

theorem SceneMemory.bank_modBank (m : SceneMemory) (n : BankName) (f : Bank → Bank) :
    (m.modBank n f).bank n = f (m.bank n) := by
  cases n <;> rfl

theorem SceneMemory.modBank_modBank (m : SceneMemory) (n : BankName) (f g : Bank → Bank) :
    (m.modBank n f).modBank n g = m.modBank n fun b => g (f b) := by
  cases n <;> rfl

theorem SceneMemory.modBank_id (m : SceneMemory) (n : BankName) : (m.modBank n fun b => b) = m := by
  cases n <;> rfl

theorem SceneMemory.modBank_congr (m : SceneMemory) (n : BankName) {f g : Bank → Bank} (same : f (m.bank n) = g (m.bank n)) :
    m.modBank n f = m.modBank n g := by
  cases n
  · exact congrArg (fun b => ({ m with bankA := b } : SceneMemory)) same
  · exact congrArg (fun b => ({ m with bankB := b } : SceneMemory)) same

/-- Writes to one bank change that bank, one after the other. -/
theorem State.writeItems_bank {α : Type} (bank : BankName) (write : α → ItemWrite) (f : Bank → α → Bank)
    (one : ∀ (s : State) a, s.writeItem (write a) = { s with scene := s.scene.modBank bank fun b => f b a })
    (l : List α) (s : State) :
    (l.map write).foldl State.writeItem s = { s with scene := s.scene.modBank bank fun b => l.foldl f b } := by
  induction l generalizing s with
  | nil => simp only [List.map_nil, List.foldl_nil, SceneMemory.modBank_id]
  | cons a l ih =>
    rw [List.map_cons, List.foldl_cons, ih, one]
    simp only [SceneMemory.modBank_modBank, List.foldl_cons]

/-- One value written to a list of channels: each of them takes it once. -/
theorem writeChannels_at (l : List ChannelNo) (level : Nat) (fade : Option Nat) (curve : Option Curve) (b : Bank)
    (n : ChannelNo) : ((l.foldl (fun b m => b.writeChannel m level fade curve) b).channels[n]) =
      if n ∈ l then (b.channels[n]).write level fade curve else b.channels[n] := by
  induction l generalizing b with
  | nil => rfl
  | cons m l ih =>
    have one : (b.writeChannel m level fade curve).channels[n] =
        if m.val = n.val then (b.channels[m]).write level fade curve else b.channels[n] :=
      updAt_getElem b.channels m _ n.val n.isLt
    rw [List.foldl_cons, ih, one]
    by_cases first : n = m
    · subst first
      rw [if_pos rfl, if_pos List.mem_cons_self]
      split
      · cases fade <;> cases curve <;> rfl
      · rfl
    · have there : n ∈ m :: l ↔ n ∈ l := by simp [first]
      rw [if_neg fun e : m.val = n.val => first (Fin.ext e.symm), if_congr there rfl rfl]

theorem writeChannels_keep (l : List ChannelNo) (level : Nat) (fade : Option Nat) (curve : Option Curve) (b : Bank) :
    l.foldl (fun b m => b.writeChannel m level fade curve) b =
      { b with channels := (l.foldl (fun b m => b.writeChannel m level fade curve) b).channels } := by
  induction l generalizing b with
  | nil => rfl
  | cons m l ih => exact ih (b.writeChannel m level fade curve)

theorem writeWindows_eq (w : WindowNo) (values : List FieldValue) (b : Bank) :
    values.foldl (fun b v => b.writeWindow w v) b =
      { b with windows := updAt b.windows w fun r => values.foldl WindowRec.write r } := by
  induction values generalizing b with
  | nil =>
    have same : (updAt b.windows w fun r => r) = b.windows := updAt_id b.windows w _ rfl
    simp only [List.foldl_nil, same]
  | cons v l ih =>
    rw [List.foldl_cons, ih]
    simp only [Bank.writeWindow, updAt_updAt, List.foldl_cons]

/-! ### Writes that no guard holds (R162) -/

section
variable {s : State} {writer : Writer} {ws : List ItemWrite}

/-- Where no guard decides, every item is written and its deferred entries go. -/
theorem State.written_open (free : ∀ w ∈ ws, s.guardOf w = none ∨ s.guardOf w = some .openMode) :
    s.written writer ws = ws.foldl State.writeItem { s with tally := { s.tally with
      queue := s.tally.queue.filter fun d => decide (∀ w ∈ ws, d.write.sameKey w = false) } } := by
  have apart (g : Guard) (held : g ≠ .openMode) : ∀ w ∈ ws, s.guardOf w ≠ some g := fun w there is => by
    rcases free w there with none | open'
    · rw [none] at is; cases is
    · rw [open'] at is; cases is; exact held rfl
  have stored : (ws.filter fun w => decide (s.guardOf w ≠ some .defer)) = ws :=
    List.filter_eq_self.2 fun w there => decide_eq_true (apart .defer (by decide) w there)
  have deferred : (ws.filter fun w => decide (s.guardOf w = some .defer)) = [] :=
    List.filter_eq_nil_iff.2 fun w there is => apart .defer (by decide) w there (of_decide_eq_true is)
  have alerting : (ws.filter fun w => decide (s.guardOf w = some .alert)) = [] :=
    List.filter_eq_nil_iff.2 fun w there is => apart .alert (by decide) w there (of_decide_eq_true is)
  unfold written queueWith
  dsimp only
  rw [stored, alerting, deferred]
  rfl

theorem State.guardWrite_open (kind : ∀ v ∈ ws, ∀ w ∈ ws, v.kind = w.kind)
    (free : ∀ w ∈ ws, s.guardOf w = none ∨ s.guardOf w = some .openMode) :
    s.guardWrite writer ws = .passed (ws.foldl State.writeItem { s with tally := { s.tally with
      queue := s.tally.queue.filter fun d => decide (∀ w ∈ ws, d.write.sameKey w = false) } }) false := by
  have apart (g : Guard) (held : g ≠ .openMode) : ¬ ∃ w ∈ ws, s.guardOf w = some g := by
    rintro ⟨w, there, is⟩
    rcases free w there with none | open'
    · rw [none] at is; cases is
    · rw [open'] at is; cases is; exact held rfl
  rw [State.guardWrite_eq s writer ws kind, if_neg (apart .refuse (by decide)),
    if_neg fun all => apart .defer (by decide) all.1, decide_eq_false (apart .defer (by decide)),
    State.written_open free]

theorem State.guardOf_eq {w : ItemWrite} {bank : BankName} (is : w.bank = some bank) :
    s.guardOf w = if bank = s.scene.program then s.shotGuard w.item else none := by
  simp only [guardOf, is]

/-- A write to one of the banks is guarded in the program bank alone (R162). -/
theorem State.guardOf_bank {w : ItemWrite} {role : BankRole} (bank : w.bank = some (s.scene.resolve role))
    (free : role = .program → s.shotGuard w.item = none ∨ s.shotGuard w.item = some .openMode) :
    s.guardOf w = none ∨ s.guardOf w = some .openMode := by
  rw [guardOf_eq bank]
  cases role with
  | program =>
    rw [show s.scene.resolve .program = s.scene.program from rfl, if_pos rfl]
    exact free rfl
  | preset =>
    have other : s.scene.program.other ≠ s.scene.program := by cases s.scene.program <;> decide
    exact .inl (if_neg other)

theorem State.guardOf_program {w : ItemWrite} (bank : w.bank = some s.scene.program) :
    s.guardOf w = s.shotGuard w.item := by
  rw [guardOf_eq bank, if_pos rfl]

end

theorem State.writeBank_of {s : State} {p : Port} {role : BankRole} {ws : BankName → List ItemWrite}
    (free : role = .preset → s.scene.inFlight = false) :
    s.writeBank p role ws = s.writeItems p (ws (s.scene.resolve role)) := by
  have busy : s.presetBusy role = false := by
    unfold presetBusy
    cases role with
    | program => rfl
    | preset => rw [free rfl]; rfl
  rw [writeBank, busy, if_neg Bool.false_ne_true]

theorem State.writeBank_busy {s : State} {p : Port} {ws : BankName → List ItemWrite} (busy : s.scene.inFlight = true) :
    s.writeBank p .preset ws = refuse s .busy := by
  have is : s.presetBusy .preset = true := busy
  rw [writeBank, is, if_pos rfl]

/-- A set of writes that the guards decide is answered by their outcome. -/
theorem State.writeItems_guards {s : State} {p : Port} {ws : List ItemWrite} {answers : State → ReplyCode → Prop}
    {more : State → Prop} (kind : ∀ v ∈ ws, ∀ w ∈ ws, v.kind = w.kind)
    (answered : ∀ u code, s.writeItems p ws = ⟨code, [], u⟩ → answers u code)
    (wrote : more (s.written (.port p) ws)) :
    s.guardsDecide (.port p) ws (answers s .guarded) (answers s .queueFull)
      fun t held => answers t (if held then .deferred else .ok) ∧ more t := by
  refine State.guardsDecide_of kind (fun outcome => answered _ _ ?_) (fun outcome => answered _ _ ?_)
    fun t held outcome => ⟨answered _ _ ?_, ?_⟩
  · simp only [writeItems, outcome]; rfl
  · simp only [writeItems, outcome]; rfl
  · simp only [writeItems, outcome]
  · have passed := State.guardWrite_eq s (.port p) ws kind
    rw [outcome] at passed
    split at passed
    · cases passed
    · split at passed
      · cases passed
      · cases passed
        exact wrote

/-! ### SET_MASTER (R59, R162) -/

theorem ItemWrite.sameKey_master (v : Nat) (w : ItemWrite) (g : GroupNo) :
    w.sameKey (.master g v) = decide (w.target = .master g) := by
  unfold sameKey
  refine decide_eq_decide.2 ⟨And.left, fun target => ⟨target, ?_⟩⟩
  cases w with
  | master => rfl
  | channel => cases target
  | window => cases target

/-- One write alone, by its guard. -/
theorem State.guardWrite_single (s : State) (writer : Writer) (w : ItemWrite) : s.guardWrite writer [w] =
    if s.guardOf w = some .refuse then .guarded
    else if s.guardOf w = some .defer ∧ 32 < (joinQueue s.tally.queue ⟨w, writer⟩).length then .queueFull
    else .passed (s.written writer [w]) (decide (s.guardOf w = some .defer)) := by
  have one (g : Guard) : (∃ v ∈ [w], s.guardOf v = some g) ↔ s.guardOf w = some g := by simp
  rw [State.guardWrite_eq s writer [w] (by simp)]
  simp only [one]
  by_cases held : s.guardOf w = some .defer
  · have queue : s.queueWith writer [w] = joinQueue s.tally.queue ⟨w, writer⟩ := by
      unfold queueWith
      rw [List.filter_singleton, decide_eq_true held]
      rfl
    rw [queue]
  · simp only [held, false_and]

/-- A deferred write enters the queue, and nothing else changes. -/
theorem State.written_deferred {s : State} {writer : Writer} {w : ItemWrite} (held : s.guardOf w = some .defer) :
    s.written writer [w] = { s with tally := { s.tally with queue := joinQueue s.tally.queue ⟨w, writer⟩ } } := by
  have stored : ([w].filter fun w => decide (s.guardOf w ≠ some .defer)) = [] := by simp [held]
  have deferred : ([w].filter fun w => decide (s.guardOf w = some .defer)) = [w] := by simp [held]
  unfold written queueWith
  dsimp only
  rw [stored, deferred]
  simp only [List.foldl_nil, List.foldl_cons, List.not_mem_nil, false_implies, implies_true, decide_true, List.filter_true]
  rfl

/-- A master written under ALERT raises its alert (R162). -/
theorem State.written_alertMaster {s : State} {writer : Writer} {g : GroupNo} {v : Nat}
    (guard : s.guardOf (.master g v) = some .alert) : s.written writer [.master g v] =
      State.raiseRouted { s with
        level := { s.level with masters := s.level.masters.set g v }
        tally := { s.tally with queue := s.tally.queue.filter fun d => decide (d.write.target ≠ .master g) } }
        (.guardAlert (.master g) .alert writer .master s.ref.counter) := by
  have stored : ([ItemWrite.master g v].filter fun w => decide (s.guardOf w ≠ some .defer)) = [.master g v] := by
    simp [guard]
  have alerting : ([ItemWrite.master g v].filter fun w => decide (s.guardOf w = some .alert)) = [.master g v] := by
    simp [guard]
  have deferred : ([ItemWrite.master g v].filter fun w => decide (s.guardOf w = some .defer)) = [] := by
    simp [guard]
  unfold written queueWith
  dsimp only
  rw [stored, alerting, deferred]
  simp only [List.foldl_nil, List.mem_singleton, forall_eq, ItemWrite.sameKey_master, decide_eq_false_iff_not]
  rfl

theorem State.writeItem_openMaster (s : State) (g : GroupNo) (v : Nat) :
    [ItemWrite.master g v].foldl State.writeItem { s with tally := { s.tally with
      queue := s.tally.queue.filter fun d => decide (∀ w ∈ [ItemWrite.master g v], d.write.sameKey w = false) } } =
    { s with
      level := { s.level with masters := s.level.masters.set g v }
      tally := { s.tally with queue := s.tally.queue.filter fun d => decide (d.write.target ≠ .master g) } } := by
  simp only [List.mem_singleton, forall_eq, ItemWrite.sameKey_master, decide_eq_false_iff_not]
  rfl

/-- A deferred write replaces the entry of its key in its place (R163). -/
theorem joinQueue_replace {l r : List Deferred} {d e : Deferred} (same : d.write.sameKey e.write = true)
    (left : ∀ x ∈ l, x.write.sameKey e.write = false) (right : ∀ x ∈ r, x.write.sameKey e.write = false) :
    joinQueue (l ++ d :: r) e = l ++ e :: r := by
  have keep (q : List Deferred) (other : ∀ x ∈ q, x.write.sameKey e.write = false) :
      (q.map fun x => if x.write.sameKey e.write then e else x) = q := by
    refine (List.map_congr_left fun x there => ?_).trans (List.map_id q)
    rw [other x there]
    rfl
  have some : ((l ++ d :: r).any fun x => x.write.sameKey e.write) = true := List.any_eq_true.2 ⟨d, by simp, same⟩
  rw [joinQueue, if_pos some, List.map_append, List.map_cons, keep l left, keep r right, if_pos same]

theorem joinQueue_append {l : List Deferred} {e : Deferred} (other : ∀ x ∈ l, x.write.sameKey e.write = false) :
    joinQueue l e = l ++ [e] := by
  have none : ¬ (l.any fun x => x.write.sameKey e.write) = true := fun some => by
    obtain ⟨x, there, same⟩ := List.any_eq_true.1 some
    rw [other x there] at same
    cases same
  rw [joinQueue, if_neg none]

theorem ItemWrite.sameKey_trans {a b c : ItemWrite} (ab : a.sameKey b = true) (cb : c.sameKey b = true) :
    a.sameKey c = true := by
  unfold sameKey at *
  obtain ⟨t, b'⟩ := of_decide_eq_true ab
  obtain ⟨t', b''⟩ := of_decide_eq_true cb
  exact decide_eq_true ⟨t.trans t'.symm, b'.trans b''.symm⟩

/-- In a queue of one entry per key, the others have another key. -/
theorem queue_others {l r : List Deferred} {d e : Deferred} (same : d.write.sameKey e.write = true)
    (apart : (l ++ d :: r).Pairwise fun a b => a.write.sameKey b.write = false) :
    (∀ x ∈ l, x.write.sameKey e.write = false) ∧ ∀ x ∈ r, x.write.sameKey e.write = false := by
  obtain ⟨-, right, left⟩ := List.pairwise_append.1 apart
  refine ⟨fun x there => Bool.eq_false_iff.2 fun is => ?_, fun x there => Bool.eq_false_iff.2 fun is => ?_⟩
  · have := left x there d List.mem_cons_self
    rw [ItemWrite.sameKey_trans is same] at this
    cases this
  · have := (List.pairwise_cons.1 right).1 x there
    rw [ItemWrite.sameKey_trans same is] at this
    cases this

theorem State.answer_setMaster {s : State} {p : Port} {g : GroupNo} (v1 v0 : Byte)
    (allowed : s.access.denied (some p) (.group g) = false) : s.answer p 0x08 [BitVec.ofNat 8 g.val, v1, v0] =
      s.writeItems p [.master g (min 256 (be16 v1 v0))] := by
  have items : s.itemsNamed p 0x08 [BitVec.ofNat 8 g.val, v1, v0] = [.group g] := by
    have same := toNat_ofNat_fin (by decide) g
    show (if h : (BitVec.ofNat 8 g.val).toNat < 16 then [Item.group ⟨(BitVec.ofNat 8 g.val).toNat, h⟩] else []) = _
    rw [dif_pos (by omega)]
    simp only [same, Fin.eta]
  have names : ∀ i ∈ s.itemsNamed p 0x08 [BitVec.ofNat 8 g.val, v1, v0], s.access.denied (some p) i = false := by
    rw [items]
    simpa using allowed
  refine (State.answer_passes rfl (fun yes => absurd yes (by decide)) (by simp [AccessUnit.lockedOut]) names).trans ?_
  rw [takeByCode_08]
  simp only [takeSetMaster, withFields_of (index_ofNat (by decide) g), clampNat_zero]

theorem State.writeItems_guarded {s : State} {p : Port} {ws : List ItemWrite}
    (outcome : s.guardWrite (.port p) ws = .guarded) : s.writeItems p ws = refuse s .guarded := by
  simp only [writeItems, outcome]

theorem State.writeItems_full {s : State} {p : Port} {ws : List ItemWrite}
    (outcome : s.guardWrite (.port p) ws = .queueFull) : s.writeItems p ws = refuse s .queueFull := by
  simp only [writeItems, outcome]

theorem State.writeItems_passed {s t : State} {p : Port} {ws : List ItemWrite} {held : Bool}
    (outcome : s.guardWrite (.port p) ws = .passed t held) :
    s.writeItems p ws = ⟨if held then .deferred else .ok, [], t⟩ := by
  simp only [writeItems, outcome]

/-- Settles O33: the guard of the group in shot decides, by the outcome of one write. -/
theorem guardsDecideMasterWrites : Obligations.GuardsDecideMasterWrites := by
  intro s p tag v1 v0 g quiet ready allowed c v entry wrote
  have guard : s.guardOf (.master g v) = if s.tally.inShotGroups.getLsbD g.val then some s.tally.groupGuards[g] else none :=
    rfl
  have outcome := s.guardWrite_single (.port p) (.master g v)
  have answered := s.answer_setMaster v1 v0 allowed
  have written (free : s.guardOf (.master g v) = none ∨ s.guardOf (.master g v) = some .openMode) :
      exec c s = .next (wrote.replied p 0x08 tag .ok s.ref.counter []) := by
    have opened := State.guardWrite_open (s := s) (writer := .port p) (ws := [.master g v]) (by simp) (by simpa using free)
    rw [State.writeItem_openMaster] at opened
    exact State.request_next ready (quiet.of_ports rfl) (by simp) (answered.trans (State.writeItems_passed opened))
  refine ⟨fun out => written (.inl ?_), fun shot => ?_⟩
  · rw [guard, out]; rfl
  · rw [if_pos shot] at guard
    refine ⟨fun mode => written (.inr (guard.trans (congrArg some mode))), fun mode => ?_, fun mode => ?_, fun mode => ?_⟩
    · have alert := guard.trans (congrArg some mode)
      rw [alert, if_neg (by decide), if_neg (fun all => nomatch all.1), State.written_alertMaster alert] at outcome
      exact State.request_notices ready (by simp) (answered.trans (State.writeItems_passed outcome))
    · rw [guard, mode, if_pos rfl] at outcome
      exact State.request_next ready quiet (by simp) (answered.trans (State.writeItems_guarded outcome))
    · have held := guard.trans (congrArg some mode)
      rw [if_neg (by rw [held]; decide), State.written_deferred held, held, decide_eq_true rfl] at outcome
      have key (d : Deferred) : d.write.sameKey entry.write = decide (d.write.target = .master g) :=
        ItemWrite.sameKey_master _ _ _
      refine ⟨fun l r d legal queue target => ?_, fun other => ?_⟩
      · obtain ⟨short, apart⟩ := legal
        rw [queue] at short apart outcome
        have same : d.write.sameKey entry.write = true := (key d).trans (decide_eq_true target)
        obtain ⟨left, right⟩ := queue_others same apart
        have joins := joinQueue_replace same left right
        rw [joins, if_neg (fun full => by simp at short full; omega)] at outcome
        exact State.request_next ready (quiet.of_ports rfl) (by simp) (answered.trans (State.writeItems_passed outcome))
      · have joins : joinQueue s.tally.queue entry = s.tally.queue ++ [entry] :=
          joinQueue_append fun x there => (key x).trans (decide_eq_false (other x there))
        rw [joins] at outcome
        refine ⟨fun room => ?_, fun full => ?_⟩
        · rw [if_neg (fun full => by simp at full; omega)] at outcome
          exact State.request_next ready (quiet.of_ports rfl) (by simp) (answered.trans (State.writeItems_passed outcome))
        · rw [if_pos ⟨rfl, by simp; omega⟩] at outcome
          exact State.request_next ready quiet (by simp) (answered.trans (State.writeItems_full outcome))

end Sys2Proof.Machine
end

section
/-! PROOF. SET_LEVEL, SET_LEVELS_SHORT, SET_WINDOW, COPY and SET_FILL. -/

namespace Sys2Proof.Machine

/-! ### The items that a bank request names (R141) -/

theorem mem_channelItems {first last : Nat} {i : Item} (h : i ∈ channelItems first last) :
    ∃ n : ChannelNo, i = .channel n ∧ first ≤ n.val ∧ n.val ≤ last := by
  unfold channelItems at h
  obtain ⟨n, there, is⟩ := List.mem_filterMap.1 h
  obtain ⟨m, range, rfl⟩ := List.mem_map.1 there
  have := List.mem_range.1 range
  split at is
  · cases is
    exact ⟨_, rfl, by dsimp only; omega, by dsimp only; omega⟩
  · cases is

theorem mem_pairItems {page : Fin 4} {rest : List Byte} {pairs : List (ChannelNo × Nat)}
    (decoded : shortPairs page rest = some pairs) {i : Item} (h : i ∈ pairItems page rest) :
    ∃ x ∈ pairs, i = .channel x.1 := by
  induction rest using shortPairs.induct generalizing pairs with
  | case1 => cases h
  | case2 short v1 v0 rest ih =>
    obtain ⟨l, more, rfl⟩ := Option.map_eq_some_iff.1 decoded
    rcases List.mem_append.1 h with one | others
    · obtain ⟨n, rfl, low, high⟩ := mem_channelItems one
      exact ⟨_, List.mem_cons_self, congrArg Item.channel (Fin.ext (by dsimp only; omega))⟩
    · obtain ⟨x, there, is⟩ := ih more others
      exact ⟨x, List.mem_cons_of_mem _ there, is⟩
  | case3 l short long =>
    unfold shortPairs at decoded
    split at decoded
    · exact absurd rfl short
    · exact absurd rfl (long _ _ _ _)
    · cases decoded

theorem windowItem_ofNat (w : WindowNo) :
    (if h : (BitVec.ofNat 8 w.val).toNat < 32 then [Item.window ⟨(BitVec.ofNat 8 w.val).toNat, h⟩] else []) =
      [.window w] := by
  have same := toNat_ofNat_fin (by decide) w
  rw [dif_pos (by omega)]
  simp only [same, Fin.eta]

theorem mem_channelRange {first last n : ChannelNo} : n ∈ channelRange first last ↔ first ≤ n ∧ n ≤ last := by
  simp [channelRange]

/-! ### The lowest guarded item (R162) -/

theorem lowestItem_le {l : List GuardedItem} {i : GuardedItem} (h : lowestItem l = some i) :
    ∀ j ∈ l, i.number ≤ j.number := by
  induction l generalizing i with
  | nil => exact fun j there => nomatch there
  | cons a l ih =>
    intro j there
    unfold lowestItem at h
    cases low : lowestItem l with
    | none =>
      rw [low] at h
      cases h
      rcases List.mem_cons.1 there with rfl | there
      · exact le_rfl
      · cases l with
        | nil => cases there
        | cons b l =>
          unfold lowestItem at low
          split at low
          · split at low <;> cases low
          · cases low
    | some k =>
      have least := ih low
      rw [low] at h
      dsimp only at h
      split at h <;> cases h
      · rcases List.mem_cons.1 there with rfl | there
        · exact Nat.le_of_lt ‹_›
        · exact least j there
      · rcases List.mem_cons.1 there with rfl | there
        · exact le_rfl
        · exact le_trans (Nat.not_lt.1 ‹_›) (least j there)

theorem lowestItem_some {l : List GuardedItem} {j : GuardedItem} (there : j ∈ l) : ∃ i, lowestItem l = some i := by
  cases l with
  | nil => cases there
  | cons a l =>
    unfold lowestItem
    split
    · split <;> exact ⟨_, rfl⟩
    · exact ⟨_, rfl⟩

/-- Of a list of channels the lowest number is the lowest item. -/
theorem lowestItem_channel {l : List GuardedItem} {n : ChannelNo} (there : .channel n ∈ l)
    (channels : ∀ j ∈ l, ∃ m : ChannelNo, j = .channel m ∧ ¬ m < n) : lowestItem l = some (.channel n) := by
  obtain ⟨i, low⟩ := lowestItem_some there
  obtain ⟨m, rfl, notBelow⟩ := channels i (lowestItem_mem low)
  have le : m.val ≤ n.val := lowestItem_le low _ there
  have : m = n := Fin.ext (le_antisymm le (Nat.not_lt.1 notBelow))
  rw [low, this]

/-! ### Channel writes -/

theorem ItemWrite.sameKey_channel (bank : BankName) (n : ChannelNo) (v : Nat) (fade : Option Nat) (curve : Option Curve)
    (w : ItemWrite) : w.sameKey (.channel bank n v fade curve) = decide (w.target = .channel n ∧ w.bank = some bank) := rfl

theorem ItemWrite.sameKey_window (bank : BankName) (n : WindowNo) (v : FieldValue) (w : ItemWrite) :
    w.sameKey (.window bank n v) = decide (w.target = .window n v.group ∧ w.bank = some bank) := rfl

/-- The scene that a set of writes leaves, the items under DEFER left out (R162). -/
theorem State.written_scene (s : State) (writer : Writer) (ws : List ItemWrite) :
    (s.written writer ws).scene = ((ws.filter fun w => decide (s.guardOf w ≠ some .defer)).foldl State.writeItem s).scene := by
  have queue (l : List ItemWrite) (u : State) (q : List Deferred) :
      (l.foldl State.writeItem { u with tally := { u.tally with queue := q } }).scene =
        (l.foldl State.writeItem u).scene := by
    induction l generalizing u with
    | nil => rfl
    | cons w l ih =>
      have keep : (u.writeItem w).tally = u.tally := (u.writeItem_keeps w).2.2.2.2.2.2.1
      rw [List.foldl_cons, State.writeItem_queue, List.foldl_cons, ← keep]
      exact ih _
  unfold written
  dsimp only
  split <;> exact queue _ _ _

section
variable {s : State} {p : Port} {role : BankRole} {b f1 f0 l1 l0 v1 v0 pres d1 d0 c : Byte} {first last : ChannelNo}
  {fade : Option Nat} {curve : Option Curve}

theorem takeSetLevel_of (coded : bankRole? b = some role) (low : be16 f1 f0 = first.val) (high : be16 l1 l0 = last.val)
    (range : first ≤ last) (below : pres.toNat < 4) (fadeOn : pres.getLsbD 0 = true → fade = some (be16 d1 d0))
    (fadeOff : pres.getLsbD 0 = false → d1 = 0 ∧ d0 = 0 ∧ fade = none)
    (curveOn : pres.getLsbD 1 = true → curve.isSome = true ∧ curve? c = curve)
    (curveOff : pres.getLsbD 1 = false → c = 0 ∧ curve = none) :
    takeSetLevel p [b, f1, f0, l1, l0, v1, v0, pres, d1, d0, c] s = s.writeBank p role fun bank =>
      (channelRange first last).map fun n => .channel bank n (be16 v1 v0) fade curve := by
  have reserved : (decide (be16 f1 f0 ≤ be16 l1 l0) && decide (pres.toNat < 4) &&
      (pres.getLsbD 0 || allZero [d1, d0])) = true := by
    rw [decide_eq_true (by rw [low, high]; exact range), decide_eq_true below, present_or_zero fun absent => by
      obtain ⟨zero1, zero0, -⟩ := fadeOff absent
      simp [allZero, zero1, zero0]]
    rfl
  have fields := both_of_ok (both_of_ok (both_of_ok (orFormat_of coded) (needFormat_of reserved))
    (optionalField_of curveOn curveOff)) (both_of_ok (index_of_lt first low) (index_of_lt last high))
  have faded : (if pres.getLsbD 0 then some (be16 d1 d0) else none) = fade := by
    cases on : pres.getLsbD 0 with
    | false => exact (fadeOff on).2.2.symm
    | true => exact (fadeOn on).symm
  simp only [takeSetLevel, withFields_of fields, faded]

theorem State.answer_setLevel (low : be16 f1 f0 = first.val) (high : be16 l1 l0 = last.val)
    (allowed : ∀ n : ChannelNo, first ≤ n → n ≤ last → s.access.denied (some p) (.channel n) = false) :
    s.answer p 0x04 [b, f1, f0, l1, l0, v1, v0, pres, d1, d0, c] =
      takeSetLevel p [b, f1, f0, l1, l0, v1, v0, pres, d1, d0, c] s := by
  refine (State.answer_passes rfl (fun yes => absurd yes (by decide)) (by simp [AccessUnit.lockedOut])
    fun i there => ?_).trans (takeByCode_04 ..)
  obtain ⟨n, rfl, from_first, to_last⟩ := mem_channelItems there
  exact allowed n (Fin.le_def.2 (low ▸ from_first)) (Fin.le_def.2 (high ▸ to_last))

end

section
variable {s : State} {p : Port} {role : BankRole} {first last : ChannelNo} {v : Nat} {fade : Option Nat}
  {curve : Option Curve}

/-- A range of channels written to one bank (R28). -/
theorem State.writeRange_eq (s : State) (bank : BankName) (l : List ChannelNo) (v : Nat) (fade : Option Nat)
    (curve : Option Curve) :
    (l.map fun n => ItemWrite.channel bank n v fade curve).foldl State.writeItem s = { s with
      scene := s.scene.modBank bank fun b => l.foldl (fun b m => b.writeChannel m v fade curve) b } :=
  State.writeItems_bank bank _ (fun b m => b.writeChannel m v fade curve) (fun _ _ => rfl) l s

/-- A range written to a bank changes its channels alone. -/
theorem SceneMemory.writeRange_channels (m : SceneMemory) (bank : BankName) (l : List ChannelNo) (v : Nat)
    (fade : Option Nat) (curve : Option Curve) :
    (m.modBank bank fun b => l.foldl (fun b n => b.writeChannel n v fade curve) b) = m.modBank bank fun x => { x with
      channels := ((m.modBank bank fun b => l.foldl (fun b n => b.writeChannel n v fade curve) b).bank bank).channels } := by
  refine SceneMemory.modBank_congr _ _ ?_
  rw [SceneMemory.bank_modBank]
  exact writeChannels_keep _ _ _ _ _

theorem State.writeRange_channels (s : State) (bank : BankName) (l : List ChannelNo) (n : ChannelNo) :
    ((((l.map fun n => ItemWrite.channel bank n v fade curve).foldl State.writeItem s).scene.bank bank).channels[n]) =
      if n ∈ l then ((s.scene.bank bank).channels[n]).write v fade curve else (s.scene.bank bank).channels[n] := by
  rw [writeRange_eq]
  show (((s.scene.modBank bank _).bank bank).channels[n]) = _
  rw [SceneMemory.bank_modBank, writeChannels_at]

end

theorem State.writeItems_ports (ws : List ItemWrite) (s : State) : (ws.foldl State.writeItem s).ports = s.ports := by
  induction ws generalizing s with
  | nil => rfl
  | cons w ws ih => rw [List.foldl_cons, ih, (s.writeItem_keeps w).2.2.2.2.2.2.2.1]

theorem Alert.kind_guardAlert (i : GuardedItem) (g : Guard) (w : Writer) (k : WriteKind) (now : Frame) :
    (Alert.guardAlert i g w k now).kind = 7 := rfl

/-- The lowest channel under ALERT is told to the routing set (R162). -/
theorem State.written_alert (s : State) (writer : Writer) {ws : List ItemWrite} {n : ChannelNo}
    (low : lowestItem (((ws.filter fun w => decide (s.guardOf w ≠ some .defer)).filter fun w =>
      decide (s.guardOf w = some .alert)).map ItemWrite.item) = some (.channel n)) {q : Port}
    (routed : (s.ports.routing[(7 : Fin 16)]).getLsbD q.val = true) :
    ((((s.written writer ws).ports.port[q]).alerts[(7 : Fin 22)]).map AlertEntry.alert) =
      some (.guardAlert (.channel n) .alert writer .bank s.ref.counter) := by
  unfold written
  dsimp only
  rw [low]
  dsimp only
  generalize written : (ws.filter fun w => decide (s.guardOf w ≠ some .defer)).foldl State.writeItem _ = u
  have ports : u.ports = s.ports := by rw [← written, State.writeItems_ports]
  have dest : u.routingSet (.guardAlert (.channel n) .alert writer .bank s.ref.counter) = s.ports.routing[(7 : Fin 16)] := by
    rw [← ports]; rfl
  rw [raiseRouted, dest, State.raiseTo_at, if_pos routed, PortState.receive_alerts, Alert.kind_guardAlert, if_pos rfl]
  rfl

/-- The deferred entries of a range of channels, in the words of their targets. -/
theorem queue_without_range (queue : List Deferred) (bank : BankName) (first last : ChannelNo) (v : Nat)
    (fade : Option Nat) (curve : Option Curve) :
    (queue.filter fun d => decide (∀ w ∈ (channelRange first last).map fun n => ItemWrite.channel bank n v fade curve,
      d.write.sameKey w = false)) = queue.filter fun d => decide (¬ ∃ n : ChannelNo,
        first ≤ n ∧ n ≤ last ∧ d.write.target = .channel n ∧ d.write.bank = some bank) := by
  refine List.filter_congr fun d _ => decide_eq_decide.2 ⟨?_, fun out w there => ?_⟩
  · rintro out ⟨n, from_first, to_last, target, of_bank⟩
    have := out _ (List.mem_map.2 ⟨n, mem_channelRange.2 ⟨from_first, to_last⟩, rfl⟩)
    rw [ItemWrite.sameKey_channel] at this
    exact of_decide_eq_false this ⟨target, of_bank⟩
  · obtain ⟨n, among, rfl⟩ := List.mem_map.1 there
    obtain ⟨from_first, to_last⟩ := mem_channelRange.1 among
    rw [ItemWrite.sameKey_channel]
    exact decide_eq_false fun same => out ⟨n, from_first, to_last, same⟩

/-- Settles O31: the channels named, as the guards decide in the program bank. -/
theorem setLevelWritesChannels : Obligations.SetLevelWritesChannels := by
  intro s p tag b f1 f0 l1 l0 v1 v0 pres d1 d0 c role first last fade curve quiet ready coded low high range below fadeOn
    fadeOff curveOn curveOff still allowed request answers
  let bank := s.scene.resolve role
  let ws : List ItemWrite := (channelRange first last).map fun n => .channel bank n (be16 v1 v0) fade curve
  have kind : ∀ v ∈ ws, ∀ w ∈ ws, v.kind = w.kind := by
    intro v there w there'
    obtain ⟨m, -, rfl⟩ := List.mem_map.1 there
    obtain ⟨n, -, rfl⟩ := List.mem_map.1 there'
    rfl
  have answer : s.answer p 0x04 [b, f1, f0, l1, l0, v1, v0, pres, d1, d0, c] = s.writeItems p ws := by
    rw [State.answer_setLevel low high allowed, takeSetLevel_of coded low high range below fadeOn fadeOff curveOn curveOff,
      State.writeBank_of still]
  refine ⟨fun free => ?_, fun program => ?_⟩
  · have outcome := State.guardWrite_open (writer := .port p) kind fun w there => by
      obtain ⟨n, among, rfl⟩ := List.mem_map.1 there
      obtain ⟨from_first, to_last⟩ := mem_channelRange.1 among
      exact State.guardOf_bank rfl (free n from_first to_last)
    have channels (n : ChannelNo) := State.writeRange_channels (v := be16 v1 v0) (fade := fade) (curve := curve)
      { s with tally := { s.tally with
        queue := s.tally.queue.filter fun d => decide (∀ w ∈ ws, d.write.sameKey w = false) } } bank (channelRange first last) n
    refine ⟨_, State.request_next ready (quiet.of_ports ?_) (by simp)
      (answer.trans (State.writeItems_passed outcome)), fun n => ?_, ?_⟩
    · rw [State.writeRange_eq]
    · refine (channels n).trans ?_
      rw [if_congr mem_channelRange rfl rfl]
      rfl
    · rw [State.writeRange_eq, queue_without_range]
      exact congrArg (fun m : SceneMemory => ({ s with
        scene := m
        tally := { s.tally with queue := s.tally.queue.filter fun d => decide (¬ ∃ n : ChannelNo,
          first ≤ n ∧ n ≤ last ∧ d.write.target = .channel n ∧ d.write.bank = some bank) } } : State))
        (SceneMemory.writeRange_channels _ _ _ _ _ _)
  · subst program
    have guard (n : ChannelNo) : s.guardOf (.channel s.scene.program n (be16 v1 v0) fade curve) = s.shotGuard (.channel n) :=
      State.guardOf_program rfl
    refine State.writeItems_guards kind
      (fun u code effect => State.request_notices ready (by simp) (answer.trans effect)) ⟨fun n => ?_, ?_⟩
    · rw [State.written_scene, List.filter_map, State.writeRange_channels]
      refine if_congr ?_ rfl rfl
      rw [List.mem_filter, mem_channelRange, Function.comp_apply, decide_eq_true_eq, guard, and_assoc]
    · intro n q from_first to_last alert lowest routed
      refine State.written_alert s (.port p) (lowestItem_channel ?_ fun j there => ?_) routed
      · refine List.mem_map.2 ⟨.channel s.scene.program n (be16 v1 v0) fade curve, List.mem_filter.2 ⟨List.mem_filter.2
          ⟨List.mem_map.2 ⟨n, mem_channelRange.2 ⟨from_first, to_last⟩, rfl⟩, ?_⟩, ?_⟩, rfl⟩
        · rw [guard, alert]; rfl
        · rw [guard, alert]; rfl
      · obtain ⟨w, held, rfl⟩ := List.mem_map.1 there
        obtain ⟨stored, alerting⟩ := List.mem_filter.1 held
        obtain ⟨m, among, rfl⟩ := List.mem_map.1 (List.mem_filter.1 stored).1
        obtain ⟨m_first, -⟩ := mem_channelRange.1 among
        refine ⟨m, rfl, fun below => lowest m m_first below ?_⟩
        rw [← guard]
        exact of_decide_eq_true alerting

/-! ### SET_LEVELS_SHORT and SET_WINDOW (R28) -/

section
variable {s : State} {p : Port} {role : BankRole} {b d1 d0 m1 m0 : Byte} {rest : List Byte}
  {pairs : List (ChannelNo × Nat)} {w : WindowNo} {groups : List (FieldGroup × List Byte)} {values : List FieldValue}

theorem takeSetLevelsShort_of (coded : bankRole? b = some role) (decoded : shortPairs s.access.pages[p] rest = some pairs)
    (some : pairs ≠ []) : takeSetLevelsShort p (b :: d1 :: d0 :: rest) s = s.writeBank p role fun bank =>
      pairs.map fun x => .channel bank x.1 x.2 (Option.some (be16 d1 d0)) none := by
  cases pairs with
  | nil => exact absurd rfl some
  | cons x l => simp only [takeSetLevelsShort, coded, decoded]

theorem State.answer_setLevelsShort (decoded : shortPairs s.access.pages[p] rest = some pairs)
    (allowed : ∀ x ∈ pairs, s.access.denied (some p) (.channel x.1) = false) :
    s.answer p 0x05 (b :: d1 :: d0 :: rest) = takeSetLevelsShort p (b :: d1 :: d0 :: rest) s := by
  refine (State.answer_passes rfl (fun yes => absurd yes (by decide)) (by simp [AccessUnit.lockedOut])
    fun i there => ?_).trans (takeByCode_05 ..)
  obtain ⟨x, among, rfl⟩ := mem_pairItems decoded there
  exact allowed x among

/-- The field groups of a payload cover all of it. -/
theorem splitGroups_length {mask : Nat} {gs : List FieldGroup} {l : List Byte} {groups : List (FieldGroup × List Byte)}
    (h : splitGroups mask gs l = some groups) : l.length ≤ (gs.map FieldGroup.width).sum := by
  induction gs generalizing l groups with
  | nil =>
    cases l with
    | nil => simp
    | cons b l => cases h
  | cons g gs ih =>
    rw [List.map_cons, List.sum_cons]
    unfold splitGroups at h
    split at h
    · split at h
      · obtain ⟨r, rest, -⟩ := Option.map_eq_some_iff.1 h
        have := ih rest
        rw [List.length_drop] at this
        omega
      · cases h
    · exact le_trans (ih h) (Nat.le_add_left _ _)

theorem setWindow_fits (split : splitGroups (be16 m1 m0) FieldGroup.all rest = some groups) (c : Byte) :
    (b :: c :: m1 :: m0 :: rest).length ≤ 1020 := by
  have short := splitGroups_length split
  have widths : (FieldGroup.all.map FieldGroup.width).sum = 22 := rfl
  simp only [List.length_cons]
  omega

theorem takeSetWindow_of (coded : bankRole? b = some role) (low : 1 ≤ be16 m1 m0) (high : be16 m1 m0 < 512)
    (split : splitGroups (be16 m1 m0) FieldGroup.all rest = some groups)
    (decoded : everyOk (groups.map fun g => fieldValue g.1 g.2) = .ok values) :
    takeSetWindow p (b :: BitVec.ofNat 8 w.val :: m1 :: m0 :: rest) s = s.writeBank p role fun bank =>
      values.map fun v => .window bank w v := by
  have fields := both_of_ok (both_of_ok (both_of_ok (orFormat_of coded)
    (needFormat_of (decide_eq_true (And.intro low high)))) decoded) (index_ofNat (by decide) w)
  simp only [takeSetWindow, split, withFields_of fields]

theorem State.answer_setWindow (allowed : s.access.denied (some p) (.window w) = false) :
    s.answer p 0x06 (b :: BitVec.ofNat 8 w.val :: m1 :: m0 :: rest) =
      takeSetWindow p (b :: BitVec.ofNat 8 w.val :: m1 :: m0 :: rest) s := by
  have names : s.itemsNamed p 0x06 (b :: BitVec.ofNat 8 w.val :: m1 :: m0 :: rest) = [.window w] := windowItem_ofNat w
  refine (State.answer_passes rfl (fun yes => absurd yes (by decide)) (by simp [AccessUnit.lockedOut])
    fun i there => ?_).trans (takeByCode_06 ..)
  rw [names, List.mem_singleton] at there
  exact there ▸ allowed

/-- A set of bank writes that no guard holds. -/
theorem State.writeItems_open {α : Type} (write : α → ItemWrite) (f : Bank → α → Bank) (l : List α)
    (one : ∀ (s' : State) a, s'.writeItem (write a) =
      { s' with scene := s'.scene.modBank (s.scene.resolve role) fun b => f b a })
    (kind : ∀ a a', (write a).kind = (write a').kind) (bank : ∀ a, (write a).bank = some (s.scene.resolve role))
    (free : ∀ a ∈ l, role = .program → s.shotGuard (write a).item = none ∨ s.shotGuard (write a).item = some .openMode) :
    s.writeItems p (l.map write) = ⟨.ok, [], { s with
      scene := s.scene.modBank (s.scene.resolve role) fun b => l.foldl f b
      tally := { s.tally with queue := s.tally.queue.filter fun d => decide (¬ ∃ a ∈ l,
        d.write.target = (write a).target ∧ d.write.bank = some (s.scene.resolve role)) } }⟩ := by
  have kinds : ∀ v ∈ l.map write, ∀ w ∈ l.map write, v.kind = w.kind := by
    intro v there w there'
    obtain ⟨a, -, rfl⟩ := List.mem_map.1 there
    obtain ⟨a', -, rfl⟩ := List.mem_map.1 there'
    exact kind a a'
  have outcome := State.guardWrite_open (writer := .port p) kinds fun w there => by
    obtain ⟨a, among, rfl⟩ := List.mem_map.1 there
    exact State.guardOf_bank (bank a) (free a among)
  rw [State.writeItems_passed outcome, State.writeItems_bank (s.scene.resolve role) write f one]
  have queue : (s.tally.queue.filter fun d => decide (∀ w ∈ l.map write, d.write.sameKey w = false)) =
      s.tally.queue.filter fun d => decide (¬ ∃ a ∈ l,
        d.write.target = (write a).target ∧ d.write.bank = some (s.scene.resolve role)) := by
    refine List.filter_congr fun d _ => decide_eq_decide.2 ⟨?_, fun out w there => ?_⟩
    · rintro out ⟨a, among, same⟩
      have := out _ (List.mem_map_of_mem among)
      rw [ItemWrite.sameKey, bank] at this
      exact of_decide_eq_false this same
    · obtain ⟨a, among, rfl⟩ := List.mem_map.1 there
      rw [ItemWrite.sameKey, bank]
      exact decide_eq_false fun same => out ⟨a, among, same⟩
  rw [queue]
  rfl

end

/-- Settles O32: the pairs and the field groups decode to a set of writes, which the guards decide. -/
theorem shortLevelsAndWindows : Obligations.ShortLevelsAndWindows := by
  intro s p tag b role quiet ready coded still
  refine ⟨fun d1 d0 rest pairs decoded some short allowed => ?_, fun m1 m0 w rest groups values low high split decoded
    allowed => ?_⟩
  · intro request answers
    have fits : (b :: d1 :: d0 :: rest).length ≤ 1020 := by simp only [List.length_cons]; omega
    have answer : s.answer p 0x05 (b :: d1 :: d0 :: rest) = s.writeItems p (pairs.map fun x =>
        .channel (s.scene.resolve role) x.1 x.2 (Option.some (be16 d1 d0)) none) := by
      rw [State.answer_setLevelsShort decoded allowed, takeSetLevelsShort_of coded decoded some, State.writeBank_of still]
    refine ⟨fun free => ?_, fun program => ?_⟩
    · have wrote := State.writeItems_open (p := p) (role := role) (s := s)
        (fun x : ChannelNo × Nat => .channel (s.scene.resolve role) x.1 x.2 (Option.some (be16 d1 d0)) none)
        (fun y z => y.writeChannel z.1 z.2 (Option.some (be16 d1 d0)) none) pairs (fun _ _ => rfl) (fun _ _ => rfl)
        (fun _ => rfl) free
      refine ⟨_, State.request_next ready ?_ fits (answer.trans wrote), rfl⟩
      exact quiet.of_ports rfl
    · subst program
      refine State.guardsDecide_of (fun v there w there' => ?_) (fun outcome => ?_) (fun outcome => ?_)
        fun t held outcome => ?_
      · obtain ⟨x, -, rfl⟩ := List.mem_map.1 there
        obtain ⟨y, -, rfl⟩ := List.mem_map.1 there'
        rfl
      · exact State.request_notices ready fits (answer.trans (State.writeItems_guarded outcome))
      · exact State.request_notices ready fits (answer.trans (State.writeItems_full outcome))
      · exact State.request_notices ready fits (answer.trans (State.writeItems_passed outcome))
  · intro request answers
    have fits := setWindow_fits (b := b) split (BitVec.ofNat 8 w.val)
    have answer : s.answer p 0x06 (b :: BitVec.ofNat 8 w.val :: m1 :: m0 :: rest) = s.writeItems p (values.map fun v =>
        .window (s.scene.resolve role) w v) := by
      rw [State.answer_setWindow allowed, takeSetWindow_of coded low high split decoded, State.writeBank_of still]
    refine ⟨fun free => ?_, fun program => ?_⟩
    · have wrote := State.writeItems_open (p := p) (role := role) (s := s)
        (fun v : FieldValue => .window (s.scene.resolve role) w v) (fun y v => y.writeWindow w v) values (fun _ _ => rfl)
        (fun _ _ => rfl) (fun _ => rfl) fun _ _ => free
      simp only [writeWindows_eq] at wrote
      exact State.request_next ready (quiet.of_ports rfl) fits (answer.trans wrote)
    · subst program
      refine State.guardsDecide_of (fun v there w there' => ?_) (fun outcome => ?_) (fun outcome => ?_)
        fun t held outcome => ?_
      · obtain ⟨x, -, rfl⟩ := List.mem_map.1 there
        obtain ⟨y, -, rfl⟩ := List.mem_map.1 there'
        rfl
      · exact State.request_notices ready fits (answer.trans (State.writeItems_guarded outcome))
      · exact State.request_notices ready fits (answer.trans (State.writeItems_full outcome))
      · exact State.request_notices ready fits (answer.trans (State.writeItems_passed outcome))

/-! ### COPY, SET_FILL and BUSY (R29, R30) -/

/-- After a copy both banks are the program bank. -/
theorem State.copyBanks_banks (s : State) : (s.copyBanks.scene.bank .a = s.scene.bank s.scene.program ∧
    s.copyBanks.scene.bank .b = s.scene.bank s.scene.program) := by
  unfold copyBanks
  cases program : s.scene.program <;> constructor <;> rfl

theorem State.copyBanks_eq (s : State) : s.copyBanks = { s with
    scene := { s.copyBanks.scene with program := s.scene.program, trans := s.scene.trans }
    tally := { s.tally with
      queue := s.tally.queue.filter fun d => decide (d.write.bank ≠ some s.scene.program.other) } } := by
  have keeps (m : SceneMemory) (n : BankName) (f : Bank → Bank) :
      m.modBank n f = { m.modBank n f with program := m.program, trans := m.trans } := by cases n <;> rfl
  unfold copyBanks
  simp only [decide_not]
  rw [keeps]

theorem State.answer_copy (s : State) (p : Port) :
    s.answer p 0x0A [] = if s.scene.inFlight then refuse s .busy else okay s.copyBanks := by
  rw [State.answer_unchecked rfl rfl (by simp [AccessUnit.lockedOut]) rfl, takeByCode_0a]
  rfl

theorem State.answer_setFill {s : State} {p : Port} {b : Byte} {role : BankRole} (coded : bankRole? b = some role)
    (red green blue : Byte) : s.answer p 0x07 [b, red, green, blue] = if s.presetBusy role then refuse s .busy else
      okay { s with scene := s.scene.modBank (s.scene.resolve role) fun x =>
        { x with fill := ⟨red.toNat, green.toNat, blue.toNat⟩ } } := by
  rw [State.answer_unchecked rfl rfl (by simp [AccessUnit.lockedOut]) rfl, takeByCode_07]
  exact withFields_of (orFormat_of coded) _

/-- Settles O35: no transition in flight, and the preset bank is free; one in flight, and it is BUSY. -/
theorem copyFillAndBusy : Obligations.CopyFillAndBusy := by
  refine ⟨fun s p tag quiet ready still => ?_, fun s p tag b red green blue role quiet ready coded still => ?_,
    fun s p tag b quiet ready coded flight => ?_⟩
  · have answer := s.answer_copy p
    rw [still, if_neg Bool.false_ne_true] at answer
    exact ⟨s.copyBanks, State.request_next ready (quiet.of_ports rfl) (by simp) answer, s.copyBanks_banks.1,
      s.copyBanks_banks.2, s.copyBanks_eq⟩
  · have free : s.presetBusy role = false := by
      unfold State.presetBusy
      cases role with
      | program => rfl
      | preset => rw [still rfl]; rfl
    have answer := State.answer_setFill (s := s) (p := p) coded red green blue
    rw [free, if_neg Bool.false_ne_true] at answer
    exact State.request_next ready (quiet.of_ports rfl) (by simp) answer
  · intro busy
    refine ⟨?_, fun red green blue => ?_, ?_, ?_, ?_⟩
    · exact State.request_next ready quiet (by simp) ((s.answer_copy p).trans (if_pos flight))
    · exact State.request_next ready quiet (by simp) ((State.answer_setFill coded red green blue).trans (if_pos flight))
    · intro f1 f0 l1 l0 v1 v0 pres d1 d0 c first last low high range below noFade curved noCurve allowed
      refine State.request_next ready quiet (by simp) ?_
      rw [State.answer_setLevel low high allowed, takeSetLevel_of
        (fade := if pres.getLsbD 0 then some (be16 d1 d0) else none)
        (curve := if pres.getLsbD 1 then curve? c else none) coded low high range below (fun on => if_pos on) ?_ ?_ ?_,
        State.writeBank_busy flight]
      · rfl
      · exact fun absent => ⟨(noFade absent).1, (noFade absent).2, if_neg (Bool.eq_false_iff.1 absent)⟩
      · exact fun on => by rw [if_pos on]; exact ⟨curved on, rfl⟩
      · exact fun absent => ⟨noCurve absent, if_neg (Bool.eq_false_iff.1 absent)⟩
    · intro d1 d0 rest pairs decoded some short allowed
      refine State.request_next ready quiet (by simp only [List.length_cons]; omega) ?_
      rw [State.answer_setLevelsShort decoded allowed, takeSetLevelsShort_of coded decoded some,
        State.writeBank_busy flight]
      rfl
    · intro m1 m0 w rest groups values low high split decoded allowed
      refine State.request_next ready quiet (setWindow_fits split _) ?_
      rw [State.answer_setWindow allowed, takeSetWindow_of coded low high split decoded, State.writeBank_busy flight]
      rfl

end Sys2Proof.Machine
end

section
/-! PROOF. The control ports: bytes, frames, line errors, the request rows, their refusals, and the arbiter. -/

namespace Sys2Proof.Machine

/-! ### The receiver (R170) -/

section
variable {s : State} {p : Port}

theorem State.modPort_quiet {f : PortState → PortState} (quiet : s.quiet)
    (keeps : ∀ x, (f x).tx = x.tx ∧ (f x).noticeOwed = x.noticeOwed) : (s.modPort p f).quiet := fun q idle => by
  rw [State.modPort_at] at idle ⊢
  split at idle
  next same =>
    rw [if_pos same]
    rw [(keeps _).1] at idle
    rw [(keeps _).2]
    exact quiet p idle
  next other =>
    rw [if_neg other]
    exact quiet q idle

theorem State.setReceiver_quiet (quiet : s.quiet) (r : Receiver) : (s.setReceiver p r).quiet :=
  State.modPort_quiet quiet fun _ => ⟨rfl, rfl⟩

theorem State.setReceiver_setReceiver (s : State) (p : Port) (r r' : Receiver) :
    (s.setReceiver p r).setReceiver p r' = s.setReceiver p r' := State.modPort_modPort _ _ _ _

theorem State.setReceiver_same {r : Receiver} (is : (s.ports.port[p]).receiver = r) : s.setReceiver p r = s := by
  subst is
  exact State.modPort_id s p _ rfl

/-- A byte that the receiver takes without an event. -/
theorem State.byte_quiet {b : Byte} {r r' : Receiver} (quiet : s.quiet) (is : (s.ports.port[p]).receiver = r)
    (taken : r.byte b = (r', .quiet)) : exec (.byteCompleted p b) s = .next (s.setReceiver p r') := by
  show (s.byteIn p b).done = _
  simp only [State.byteIn, is, taken]
  exact State.done_of_quiet (State.setReceiver_quiet quiet r')

theorem Receiver.byte_hunt (b : Byte) :
    Receiver.hunt.byte b = if b = 0xC3 then (.length none, .quiet) else (.hunt, .stray) := rfl

theorem Receiver.byte_length (h b : Byte) : (Receiver.length (some h)).byte b =
    if 2 ≤ be16 h b ∧ be16 h b ≤ 1022 then (.body (be16 h b) [], .quiet) else (.hunt, .badLength) := rfl

theorem Receiver.byte_body (n : Nat) (got : List Byte) (b : Byte) : (Receiver.body n got).byte b =
    if got.length + 1 < n then (.body n (got ++ [b]), .quiet) else (.check (got ++ [b]) none, .quiet) := rfl

theorem Receiver.byte_check (whole : List Byte) (c b : Byte) : (Receiver.check whole (some c)).byte b =
    (.hunt, .frame whole (BitVec.ofNat 16 (be16 c b))) := rfl

end

theorem frameReceived_eq (s : State) (p : Port) (body : List Byte) (crc : BitVec 16) :
    exec (.frameReceived p body crc) s = ((s.setReceiver p .hunt).checkFrame p body crc).done := rfl

/-- Settles O3: each receiver state takes the byte by its own row of the table. -/
theorem receiverTakesBytes : Obligations.ReceiverTakesBytes := by
  intro s p b quiet
  refine ⟨fun hunts => ⟨fun start => ?_, fun stray => ?_⟩, fun is => State.byte_quiet quiet is rfl,
    fun h is => ⟨fun fits => ?_, fun bad => ?_⟩, fun n got is => ⟨fun more => ?_, fun last => ?_⟩,
    fun whole is => State.byte_quiet quiet is rfl, fun whole c is => ?_⟩
  · exact State.byte_quiet quiet hunts ((Receiver.byte_hunt b).trans (if_pos start))
  · show (s.byteIn p b).done = _
    simp only [State.byteIn, hunts, Receiver.byte_hunt, if_neg stray, State.setReceiver_same hunts]
    exact State.done_of_quiet (State.modPort_quiet quiet fun _ => ⟨rfl, rfl⟩)
  · exact State.byte_quiet quiet is ((Receiver.byte_length h b).trans (if_pos fits))
  · show (s.byteIn p b).done = _
    simp only [State.byteIn, State.rxEvent, is, Receiver.byte_length, if_neg (show ¬ (2 ≤ be16 h b ∧ be16 h b ≤ 1022) by omega)]
    rw [State.setReceiver, State.modPort_modPort]
    exact State.done_of_quiet (State.modPort_quiet quiet fun _ => ⟨rfl, rfl⟩)
  · exact State.byte_quiet quiet is ((Receiver.byte_body n got b).trans (if_pos more))
  · exact State.byte_quiet quiet is ((Receiver.byte_body n got b).trans (if_neg (by omega)))
  · show (s.byteIn p b).done = _
    simp only [State.byteIn, is, Receiver.byte_check]
    exact (frameReceived_eq s p whole _).symm

/-! ### The bytes of a frame (R170, R171) -/

/-- A state whose receiver stands at one place, with commands to come. -/
def State.receiving (s : State) (p : Port) (r : Receiver) (rest : List Instr) : State :=
  { s.setReceiver p r with pending := rest }

section
variable {s : State} {p : Port}

theorem State.receiving_at (s : State) (p : Port) (r : Receiver) (rest : List Instr) :
    ((s.receiving p r rest).ports.port[p]).receiver = r := by
  show (((s.setReceiver p r).ports.port[p])).receiver = r
  rw [State.setReceiver, State.modPort_at, if_pos rfl]

/-- One byte of a frame is one step. -/
theorem State.run_byte (quiet : s.quiet) {b : Byte} {r r' : Receiver} (taken : r.byte b = (r', .quiet)) (k : Nat)
    (rest : List Instr) : core.run (k + 1) (s.receiving p r (.byteCompleted p b :: rest)) =
      core.run k (s.receiving p r' rest) := by
  have one : exec (.byteCompleted p b) (s.receiving p r rest) = .next (s.receiving p r' rest) := by
    refine (State.byte_quiet ?_ (s.receiving_at p r rest) taken).trans ?_
    · exact State.setReceiver_quiet quiet r
    · exact congrArg (fun t : State => Host.Outcome.next { t with pending := rest }) (s.setReceiver_setReceiver p r r')
  show (match exec (.byteCompleted p b) (s.receiving p r rest) with
    | .next s' => core.run k s'
    | .fault e => .fault e
    | .refused e => .refused e) = _
  rw [one]

/-- The bytes of a body, up to its last one. -/
theorem State.run_body (quiet : s.quiet) (bs got : List Byte) (some : bs ≠ []) (k : Nat) (rest : List Instr) :
    core.run (bs.length + k)
        (s.receiving p (.body (got.length + bs.length) got) (bs.map (Instr.byteCompleted p) ++ rest)) =
      core.run k (s.receiving p (.check (got ++ bs) none) rest) := by
  induction bs generalizing got with
  | nil => exact absurd rfl some
  | cons b bs ih =>
    have taken := Receiver.byte_body (got.length + (b :: bs).length) got b
    rw [List.length_cons, Nat.add_right_comm, List.map_cons, List.cons_append]
    rw [List.length_cons] at taken
    cases bs with
    | nil =>
      rw [if_neg (by simp)] at taken
      refine (State.run_byte quiet taken _ _).trans ?_
      simp
    | cons c bs =>
      rw [if_pos (by simp)] at taken
      refine (State.run_byte quiet taken _ _).trans ?_
      have more := ih (got ++ [b]) (by simp)
      rw [List.append_assoc, List.length_append, List.length_singleton, Nat.add_assoc, Nat.add_comm 1] at more
      exact more

end

theorem be16_of_u16 {n : Nat} (small : n < 65536) : be16 (BitVec.ofNat 8 (n / 256)) (BitVec.ofNat 8 n) = n := by
  unfold be16
  rw [BitVec.toNat_ofNat, BitVec.toNat_ofNat]
  omega

/-- The last byte of a frame hands it over. -/
theorem State.run_frame (s : State) (p : Port) (whole : List Byte) (c b : Byte) (rest : List Instr) :
    core.run 1 (s.receiving p (.check whole (some c)) (.byteCompleted p b :: rest)) =
      exec (.frameReceived p whole (BitVec.ofNat 16 (be16 c b))) { s with pending := rest } := by
  let t : State := s.receiving p (.check whole (some c)) rest
  have one : core.run 1 (s.receiving p (.check whole (some c)) (.byteCompleted p b :: rest)) =
      exec (.byteCompleted p b) t := by
    show (match exec (.byteCompleted p b) t with
      | .next s' => Host.Outcome.next s'
      | .fault e => .fault e
      | .refused e => .refused e) = _
    cases exec (.byteCompleted p b) t <;> rfl
  have hunting : t.setReceiver p .hunt = ({ s with pending := rest } : State).setReceiver p .hunt :=
    congrArg (fun u : State => { u with pending := rest }) (s.setReceiver_setReceiver p _ .hunt)
  rw [one, frameReceived_eq, ← hunting]
  show (t.byteIn p b).done = _
  simp only [State.byteIn, t, s.receiving_at p, Receiver.byte_check, State.rxEvent]

/-- Settles O4: start byte, length and body go by quietly, and the last byte of the check hands the frame over. -/
theorem bytesMakeTheFrame : Obligations.BytesMakeTheFrame := by
  intro s p body rest quiet hunts some short pending
  generalize check : crc16 (u16 body.length ++ body) = crc
  have whole : s = s.receiving p .hunt s.pending := by
    rw [State.receiving, State.setReceiver_same hunts]
  have size : be16 (BitVec.ofNat 8 (body.length / 256)) (BitVec.ofNat 8 body.length) = body.length := be16_of_u16 (by omega)
  have crcBytes : BitVec.ofNat 16 (be16 (BitVec.ofNat 8 (crc.toNat / 256)) (BitVec.ofNat 8 crc.toNat)) = crc := by
    rw [be16_of_u16 (by have := crc.isLt; omega), BitVec.ofNat_toNat, BitVec.setWidth_eq]
  have bytes : frameOf body = 0xC3 :: BitVec.ofNat 8 (body.length / 256) :: BitVec.ofNat 8 body.length ::
      (body ++ [BitVec.ofNat 8 (crc.toNat / 256), BitVec.ofNat 8 crc.toNat]) := by
    rw [frameOf, check]
    rfl
  have steps : (frameOf body).length = body.length + 2 + 1 + 1 + 1 := by
    rw [bytes]
    simp
  have nonempty : body ≠ [] := fun none => by rw [none] at some; exact absurd some (by decide)
  rw [steps]
  conv_lhs => rw [whole, pending, bytes]
  simp only [List.map_cons, List.cons_append, List.map_append, List.append_assoc, List.map_nil, List.nil_append]
  rw [State.run_byte quiet (r' := .length none) (by rw [Receiver.byte_hunt, if_pos rfl]),
    State.run_byte quiet (r' := .length (Option.some (BitVec.ofNat 8 (body.length / 256)))) rfl,
    State.run_byte quiet (r' := .body body.length []) (by
      rw [Receiver.byte_length, size, if_pos ⟨some, short⟩])]
  have through := State.run_body (p := p) quiet body [] nonempty 2 (.byteCompleted p (BitVec.ofNat 8 (crc.toNat / 256)) ::
    .byteCompleted p (BitVec.ofNat 8 crc.toNat) :: rest)
  rw [List.length_nil, Nat.zero_add, List.nil_append] at through
  rw [through, State.run_byte quiet (r' := .check body (Option.some (BitVec.ofNat 8 (crc.toNat / 256)))) rfl,
    State.run_frame, crcBytes]

/-! ### Frames and line errors (R172, R174) -/

section
variable {s : State} {p : Port}

theorem State.checkFrame_bad {code tag : Byte} {payload : List Byte} {crc : BitVec 16} (fits : payload.length ≤ 1020)
    (differs : crc16 (u16 (code :: tag :: payload).length ++ (code :: tag :: payload)) ≠ crc) :
    s.checkFrame p (code :: tag :: payload) crc = s.modPort p fun x => x.bump .crc := by
  rw [checkFrame, if_neg (by omega), if_neg differs]

theorem State.checkFrame_good {code tag : Byte} {payload : List Byte} {crc : BitVec 16} (fits : payload.length ≤ 1020)
    (same : crc16 (u16 (code :: tag :: payload).length ++ (code :: tag :: payload)) = crc) :
    s.checkFrame p (code :: tag :: payload) crc = s.request code ⟨p, tag, payload⟩ := by
  rw [checkFrame, request, if_neg (by omega), if_pos same, if_neg (Nat.not_lt.2 fits)]

theorem State.arbitrate_sending {f : TxFrame} (sends : (s.ports.port[p]).tx = some f) : s.arbitrate p = s := by
  simp only [arbitrate, sends]

/-- A request on a SENDING port is queued or dropped (R174). -/
theorem State.request_sending {f : TxFrame} (sends : (s.ports.port[p]).tx = some f) {code tag : Byte}
    {payload : List Byte} (fits : payload.length ≤ 1020) :
    s.request code ⟨p, tag, payload⟩ = s.modPort p fun x => x.enqueue ⟨code, tag, payload⟩ s.ref.counter := by
  rw [request, if_neg (Nat.not_lt.2 fits), receive]
  refine State.arbitrate_sending (f := f) ?_
  rw [State.modPort_at, if_pos rfl]
  unfold PortState.enqueue
  dsimp only
  split
  · exact sends
  · split <;> exact sends

theorem State.modPort_congr {f g : PortState → PortState} (same : f s.ports.port[p] = g s.ports.port[p]) :
    s.modPort p f = s.modPort p g := by
  unfold modPort updAt
  rw [same]

end

/-- Settles O5: the check decides, and then the port's state and its queues. -/
theorem frameReceivedResults : Obligations.FrameReceivedResults := by
  intro s p code tag payload crc quiet fits
  rw [frameReceived_eq]
  have hunts := State.setReceiver_quiet (p := p) quiet .hunt
  refine ⟨fun differs => ?_, fun same => ?_⟩
  · rw [State.checkFrame_bad fits differs, State.setReceiver, State.modPort_modPort]
    exact State.done_of_quiet (State.modPort_quiet quiet fun _ => ⟨rfl, rfl⟩)
  · rw [State.checkFrame_good fits same]
    have kept : (s.setReceiver p .hunt).ports.port[p] = { s.ports.port[p] with receiver := .hunt } := by
      rw [State.setReceiver, State.modPort_at, if_pos rfl]
    refine ⟨fun ready => ?_, fun f sends => ?_⟩
    · rw [State.request_ready (r := ⟨p, tag, payload⟩) ?_ fits]
      · rfl
      · unfold State.ready at ready ⊢
        rw [kept]
        exact ready
    · have sending : ((s.setReceiver p .hunt).ports.port[p]).tx = some f := by
        rw [kept]
        exact sends
      rw [State.request_sending sending fits, State.setReceiver, State.modPort_modPort]
      have next {g : PortState → PortState} (takes : ({ s.ports.port[p] with receiver := .hunt } : PortState).enqueue
            ⟨code, tag, payload⟩ s.ref.counter = g s.ports.port[p])
          (keeps : ∀ x, (g x).tx = x.tx ∧ (g x).noticeOwed = x.noticeOwed) :
          (s.modPort p fun x => ({ x with receiver := .hunt } : PortState).enqueue ⟨code, tag, payload⟩
            s.ref.counter).done = .next (s.modPort p g) := by
        rw [State.modPort_congr (g := g) takes]
        exact State.done_of_quiet (State.modPort_quiet quiet keeps)
      refine ⟨fun room => next ?_ fun _ => ⟨rfl, rfl⟩, fun full owed => next ?_ fun _ => ⟨rfl, rfl⟩,
        fun full owed => next ?_ fun _ => ⟨rfl, rfl⟩⟩
      · rw [PortState.enqueue, if_pos room]
      · rw [PortState.enqueue, if_neg (by dsimp only; omega), if_pos owed]
        rfl
      · rw [PortState.enqueue, if_neg (by dsimp only; omega), if_neg (by dsimp only; omega)]
        rfl

/-- Settles O6: a gap inside a frame, and a framing error and a break anywhere, clear their receiver. -/
theorem lineErrors : Obligations.LineErrors := by
  intro s p
  refine ⟨fun inFrame => ?_, fun hunts => ?_, rfl, rfl⟩
  · have is : (s.ports.port[p]).receiver.inFrame = true := by
      cases at' : (s.ports.port[p]).receiver with
      | hunt => exact absurd at' inFrame
      | length => rfl
      | body => rfl
      | check => rfl
    show execGap p s = _
    rw [execGap, is, if_pos rfl]
  · show execGap p s = _
    rw [execGap, hunts]
    rfl

/-! ### The request rows (R135, R170) -/

/-- A request row runs its request. -/
theorem exec_wire {i : Instr} {p : Port} {body : List Byte} (wire : i.wire = some (p, body)) (s : State) :
    ∃ code tag payload, body = code :: tag :: payload ∧ exec i s = (s.request code ⟨p, tag, payload⟩).done := by
  cases i <;> cases wire <;> exact ⟨_, _, _, rfl, rfl⟩

theorem wire_fits {i : Instr} {p : Port} {code tag : Byte} {payload : List Byte} (wf : i.wf = true)
    (wire : i.wire = some (p, code :: tag :: payload)) : payload.length ≤ 1020 := by
  have fits := (Bool.and_eq_true_iff.1 wf).1
  unfold Instr.fits at fits
  rw [wire] at fits
  have := (of_decide_eq_true fits).2
  simp only [List.length_cons] at this
  omega

/-- Settles O7: both run the same request. -/
theorem requestRowIsItsFrame : Obligations.RequestRowIsItsFrame := by
  intro i p body s wf wire
  obtain ⟨code, tag, payload, rfl, runs⟩ := exec_wire wire (s.setReceiver p .hunt)
  rw [frameReceived_eq, State.checkFrame_good (wire_fits wf wire) rfl, runs]

/-! ### Refusals (R136, R139, R140) -/

theorem knownCode_of_engineering {code : Byte} (h : engineering code = true) : knownCode code = true := by
  simp only [engineering, Bool.or_eq_true, decide_eq_true_eq, Bool.and_eq_true] at h
  simp only [knownCode, Bool.and_eq_true, decide_eq_true_eq]
  rcases h with (rfl | rfl) | range
  · decide
  · decide
  · omega

theorem State.answer_locked {s : State} {p : Port} {code : Byte} {payload : List Byte} (known : knownCode code = true)
    (engineer : s.access.roles[p] = .engineering) (lock : s.access.lockedOut code = true) :
    s.answer p code payload = refuse s .locked := by
  have check : s.accessCheck p code payload = some (refuse s .locked) := by
    simp [accessCheck, engineer, lock]
  simp only [answer, known, check, if_true]

theorem State.answer_unknown {s : State} {p : Port} {code : Byte} {payload : List Byte} (unknown : knownCode code = false) :
    s.answer p code payload = refuse s .format := by
  simp only [answer, unknown, Bool.false_eq_true, if_false]

/-- Settles O8: the role and the lock are checked before the request's block, and an unknown code has none. -/
theorem requestsAreRefused : Obligations.RequestsAreRefused := by
  refine ⟨fun i p code tag payload s quiet ready wf wire => ?_, fun s r code quiet ready fits unknown => ?_⟩
  · obtain ⟨_, _, _, same, runs⟩ := exec_wire wire s
    cases same
    have fits := wire_fits wf wire
    rw [runs]
    refine ⟨fun engineers operator => ?_, fun engineer locked => ?_⟩
    · exact State.request_next ready quiet fits (State.answer_role (knownCode_of_engineering engineers) engineers operator)
    · refine State.request_next ready quiet fits ?_
      rcases locked with ⟨rfl, lock⟩ | ⟨rfl | rfl, lock⟩ <;>
        exact State.answer_locked rfl engineer (by simp [AccessUnit.lockedOut, lock])
  · refine State.request_next ready quiet fits (State.answer_unknown ?_)
    rcases unknown with rfl | high
    · rfl
    · rw [knownCode, decide_eq_false (p := code.toNat ≤ 0x27) (by omega), Bool.and_false]

/-! ### Claims (R141, R142) -/

section
variable {a : AccessUnit} {id : ClaimId} {c : Claim} {i : Item}

theorem AccessUnit.claimCovers_used (used : a.claims[id] = some c) (i : Item) : a.claimCovers id i = c.range.covers i := by
  simp only [claimCovers, used]

theorem AccessUnit.claimCovers_free (free : a.claims[id] = none) (i : Item) : a.claimCovers id i = false := by
  simp only [claimCovers, free]

/-- Under one claim alone, the other ports are denied what it covers, and told its id. -/
theorem AccessUnit.denyingClaim_only {p : Port} {items : List Item} (used : a.claims[id] = some c) (other : c.owner ≠ p)
    (alone : ∀ j : ClaimId, j ≠ id → a.claims[j] = none) (named : i ∈ items) (covers : c.range.covers i = true) :
    a.denyingClaim (some p) items = some id := by
  have denied : a.denied (some p) i = true := by
    have covered : (List.finRange 64).any (fun id => a.claimCovers id i) = true :=
      List.any_eq_true.2 ⟨id, List.mem_finRange id, (claimCovers_used used i).trans covers⟩
    have owned : (List.finRange 64).any (fun id => a.claimOwns (some p) id i) = false := by
      refine Bool.eq_false_iff.2 fun some => ?_
      obtain ⟨j, -, owns⟩ := List.any_eq_true.1 some
      unfold claimOwns at owns
      by_cases same : j = id
      · rw [same, used] at owns
        simp [other] at owns
      · rw [alone j same] at owns
        cases owns
    rw [AccessUnit.denied, covered, owned]
    rfl
  refine find?_finRange ?_ fun j below => ?_
  · exact List.any_eq_true.2 ⟨i, List.mem_filter.2 ⟨named, denied⟩, (claimCovers_used used i).trans covers⟩
  · refine Bool.eq_false_iff.2 fun some => ?_
    obtain ⟨k, -, covered⟩ := List.any_eq_true.1 some
    rw [claimCovers_free (alone j (ne_of_lt below))] at covered
    cases covered

theorem State.answer_denied {s : State} {p : Port} {code : Byte} {payload : List Byte} (known : knownCode code = true)
    (free : engineering code = false) (lock : s.access.lockedOut code = false)
    (denied : s.access.denyingClaim (some p) (s.itemsNamed p code payload) = some id) :
    s.answer p code payload = ⟨.denied, [BitVec.ofNat 8 id.val], s⟩ := by
  have check : s.accessCheck p code payload = some ⟨.denied, u8 id.val, s⟩ := by
    simp [accessCheck, free, lock, denied]
  simp only [answer, known, check, if_true]
  rfl

end

theorem channelItems_mem {first last : Nat} {n : ChannelNo} (low : first ≤ n.val) (high : n.val ≤ last) :
    Item.channel n ∈ channelItems first last := by
  refine List.mem_filterMap.2 ⟨n.val, List.mem_map.2 ⟨n.val - first, List.mem_range.2 (by omega), by omega⟩, ?_⟩
  rw [dif_pos n.isLt]

theorem mem_of_only {items : List Item} {i : Item} (only : items = [i]) : i ∈ items :=
  only ▸ List.mem_singleton.2 rfl

theorem groupItem_ofNat (g : GroupNo) :
    (if h : (BitVec.ofNat 8 g.val).toNat < 16 then [Item.group ⟨(BitVec.ofNat 8 g.val).toNat, h⟩] else []) =
      [.group g] := by
  have same := toNat_ofNat_fin (by decide) g
  rw [dif_pos (by omega)]
  simp only [same, Fin.eta]

/-- Settles O9: the item that the request names is under the one claim. -/
theorem claimsDenyOtherPorts : Obligations.ClaimsDenyOtherPorts := by
  intro s p q tag id c quiet ready apart used owner alone
  have other : c.owner ≠ p := fun same => apart (owner.symm.trans same)
  have denies {code : Byte} {payload : List Byte} {i : Item} (known : knownCode code = true)
      (free : engineering code = false) (lock : s.access.lockedOut code = false) (fits : payload.length ≤ 1020)
      (named : i ∈ s.itemsNamed p code payload) (covers : c.range.covers i = true) :
      (s.request code ⟨p, tag, payload⟩).done =
        .next (s.replied p code tag .denied s.ref.counter [BitVec.ofNat 8 id.val]) :=
    State.request_next ready quiet fits (State.answer_denied known free lock
      (AccessUnit.denyingClaim_only used other alone named covers))
  refine ⟨fun bank m1 m0 w rest set range there short => ?_, fun bank f1 f0 l1 l0 rest first last n range low high lower upper short =>
    ?_, fun g rest range short => ?_, fun k rest range short => ⟨?_, ?_⟩⟩
  · refine denies (i := .window w) rfl rfl (by simp [AccessUnit.lockedOut]) (by simp only [List.length_cons]; omega) ?_ ?_
    · exact mem_of_only (windowItem_ofNat w)
    · rw [range]; exact there
  · refine denies (i := .channel n) rfl rfl (by simp [AccessUnit.lockedOut]) (by simp only [List.length_cons]; omega) ?_ ?_
    · exact channelItems_mem lower upper
    · rw [range]; exact decide_eq_true ⟨low, high⟩
  · refine denies (i := .group g) rfl rfl (by simp [AccessUnit.lockedOut]) (by simp only [List.length_cons]; omega) ?_ ?_
    · exact mem_of_only (groupItem_ofNat g)
    · rw [range]; exact beq_self_eq_true g
  · refine denies (i := .stack k) rfl rfl (by simp [AccessUnit.lockedOut]) (by simp only [List.length_cons]; omega) ?_ ?_
    · exact mem_of_only (stackItem_ofNat k)
    · rw [range]; exact beq_self_eq_true k
  · refine denies (i := .stack k) rfl rfl (by simp [AccessUnit.lockedOut]) (by simp only [List.length_cons]; omega) ?_ ?_
    · exact mem_of_only (stackItem_ofNat k)
    · rw [range]; exact beq_self_eq_true k

/-! ### The arbiter (R169, R175, R182) -/

theorem mapTab_updAt {n : Nat} {α : Type} {f : α → α} {v : Vector α n} {p : Fin n} (others : ∀ q, q ≠ p → f v[q] = v[q]) :
    mapTab f v = updAt v p f := by
  refine mapTab_eq fun q => ?_
  have at' : (updAt v p f)[q] = if p.val = q.val then f v[p] else v[q] := updAt_getElem v p f q.val q.isLt
  rw [at']
  by_cases same : q = p
  · rw [if_pos (congrArg Fin.val same.symm), same]
  · rw [if_neg fun e => same (Fin.ext e.symm), others q same]

theorem PortState.takeRate_none {x : PortState} (pending : x.pendingRate = none) (p : Port) :
    (x.rateReady p).takeRate = x := by
  have ready : x.rateReady p = x := by
    cases x
    cases pending
    rfl
  rw [ready]
  unfold takeRate
  rw [pending]

/-- A port after its line rate has changed: its receiver is in HUNT again, a frame that it was in lost (R169). -/
def PortState.atRate (rate : LineRate) (x : PortState) : PortState :=
  { (if x.receiver = .hunt then x else x.bump .framing) with rate := rate, pendingRate := none, receiver := .hunt }

theorem PortState.takeRate_of {x : PortState} {rate : LineRate} {g : Port} (waits : x.pendingRate = some ⟨rate, some g⟩)
    (idle : x.tx = none) : (x.rateReady g).takeRate = x.atRate rate := by
  have ready : x.rateReady g = { x with pendingRate := some ⟨rate, none⟩ } := by
    unfold rateReady
    rw [waits, Option.map_some, if_pos rfl]
  rw [ready]
  obtain ⟨_, _, receiver, _, _, tx, _, _, _, _⟩ := x
  cases idle
  cases receiver <;> rfl

section
variable {s : State} {p : Port} {f : TxFrame}

/-- The state in which a frame has ended, and the rates that waited for it are taken. -/
def State.sent (s : State) (p : Port) : State :=
  { s.modPort p fun x => { x with tx := none } with ports := { (s.modPort p fun x => { x with tx := none }).ports with
    port := mapTab (fun x : PortState => (x.rateReady p).takeRate) (s.modPort p fun x => { x with tx := none }).ports.port } }

theorem State.transmitEnd_eq (sends : (s.ports.port[p]).tx = some f) : s.transmitEnd p = (s.sent p).arbitrate p := by
  simp only [transmitEnd, sends]
  rfl

/-- With no rate pending, the end of a frame makes its port IDLE. -/
theorem State.sent_none (still : ∀ q : Port, (s.ports.port[q]).pendingRate = none) :
    s.sent p = s.modPort p fun x => { x with tx := none } := by
  have none' (q : Port) : ((s.modPort p fun x => { x with tx := none }).ports.port[q]).pendingRate = none := by
    rw [State.modPort_at]
    split
    · exact still p
    · exact still q
  have same : mapTab (fun x : PortState => (x.rateReady p).takeRate) (s.modPort p fun x => { x with tx := none }).ports.port =
      (s.modPort p fun x => { x with tx := none }).ports.port :=
    mapTab_eq fun q => PortState.takeRate_none (none' q) p
  unfold sent
  rw [same]

end

section
variable {s : State} {p : Port}

theorem State.arbitrate_notice (idle : (s.ports.port[p]).tx = none) (owed : (s.ports.port[p]).noticeOwed = true) :
    s.arbitrate p = s.modPort p fun x => x.startNotice s.ref.counter := by
  simp only [arbitrate, idle, owed]

theorem State.arbitrate_overrun {o : Overrun} {os : List Overrun} (idle : (s.ports.port[p]).tx = none)
    (notice : (s.ports.port[p]).noticeOwed = false) (owed : (s.ports.port[p]).overruns = o :: os) :
    s.arbitrate p = s.modPort p fun x => { x with tx := some (.overrun o.code o.tag o.frame), overruns := os } := by
  simp only [arbitrate, idle, notice, owed]

theorem State.arbitrate_queue {q : Queued} {qs : List Queued} (idle : (s.ports.port[p]).tx = none)
    (notice : (s.ports.port[p]).noticeOwed = false) (owed : (s.ports.port[p]).overruns = [])
    (waits : (s.ports.port[p]).queue = q :: qs) :
    s.arbitrate p = (s.modPort p fun x => { x with queue := qs }).takeRequest p q := by
  simp only [arbitrate, idle, notice, owed, waits]

theorem State.arbitrate_idle (idle : (s.ports.port[p]).tx = none) (notice : (s.ports.port[p]).noticeOwed = false)
    (owed : (s.ports.port[p]).overruns = []) (waits : (s.ports.port[p]).queue = []) : s.arbitrate p = s := by
  simp only [arbitrate, idle, notice, owed, waits]

end

theorem State.modPort_quiet_at {s : State} {p : Port} {g : PortState → PortState}
    (others : ∀ q, q ≠ p → (s.ports.port[q]).tx = none → (s.ports.port[q]).noticeOwed = false)
    (own : (g s.ports.port[p]).tx = none → (g s.ports.port[p]).noticeOwed = false) : (s.modPort p g).quiet := fun q => by
  rw [State.modPort_at]
  split
  · exact own
  · rename_i other
    exact others q (Ne.symm other)

/-- Settles O10: the arbiter in its order, and the rate that waited for the frame. -/
theorem transmitterArbitrates : Obligations.TransmitterArbitrates := by
  refine ⟨fun s p f quiet sends still => ?_, fun s p g f rate quiet pending others sends free notice overruns queue => ?_⟩
  · let u : State := s.modPort p fun x => { x with tx := none }
    have ends : exec (.transmitEnd p) s = (u.arbitrate p).done := by
      show (s.transmitEnd p).done = _
      rw [State.transmitEnd_eq sends, State.sent_none still]
    have at' : u.ports.port[p] = { s.ports.port[p] with tx := none } := by
      rw [State.modPort_at, if_pos rfl]
    refine ⟨fun owed => ⟨?_, ?_⟩, fun o os notice owed => ⟨?_, ?_⟩, fun q qs notice owed waits => ?_,
      fun notice owed waits => ?_⟩
    · rw [ends, State.arbitrate_notice (by rw [at']) (by rw [at']; exact owed), State.modPort_modPort,
        State.modPort_congr (g := fun x => { x with tx := some (.notice s.ref.counter x.alertKinds), noticeOwed := false })]
      · exact State.done_of_quiet (State.modPort_quiet_at (fun q _ => quiet q) fun idle => by cases idle)
      · unfold PortState.startNotice
        rw [if_pos (by simpa using owed)]
        rfl
    · show (if (s.ports.port[p]).noticeOwed then (s.transmitEnd p).done else .next s) = _
      rw [if_pos owed]
      rfl
    · rw [ends, State.arbitrate_overrun (by rw [at']) (by rw [at']; exact notice) (by rw [at']; exact owed),
        State.modPort_modPort]
      exact State.done_of_quiet (State.modPort_quiet_at (fun q _ => quiet q) fun idle => by cases idle)
    · show (if !(s.ports.port[p]).noticeOwed && !(s.ports.port[p]).overruns.isEmpty then (s.transmitEnd p).done
        else .next s) = _
      rw [notice, owed]
      rfl
    · rw [ends, State.arbitrate_queue (by rw [at']) (by rw [at']; exact notice) (by rw [at']; exact owed)
        (by rw [at']; exact waits), State.modPort_modPort]
      rfl
    · rw [ends, State.arbitrate_idle (by rw [at']) (by rw [at']; exact notice) (by rw [at']; exact owed)
        (by rw [at']; exact waits)]
      exact State.done_of_quiet (State.modPort_quiet_at (fun q _ => quiet q) fun _ => notice)
  · let u : State := s.modPort g fun x => { x with tx := none }
    have at' (q : Port) : u.ports.port[q] = if g = q then { s.ports.port[g] with tx := none } else s.ports.port[q] :=
      State.modPort_at _ _ _ _
    have gate : s.rateGate p = some g := by
      simp only [State.rateGate, pending, Option.getD_some]
      exact if_pos (free.imp Eq.symm id)
    have idle : (u.ports.port[p]).tx = none := by
      rw [at' p]
      by_cases same : g = p
      · rw [if_pos same]
      · rw [if_neg same]
        exact free.resolve_left (Ne.symm same)
    have waits : (u.ports.port[p]).pendingRate = some ⟨rate, some g⟩ := by
      rw [at' p]
      split
      next same => exact same ▸ pending
      next => exact pending
    have sent : s.sent g = u.modPort p fun x => (x.rateReady g).takeRate := by
      have none' (q : Port) (other : q ≠ p) : (u.ports.port[q]).pendingRate = none := by
        rw [at' q]
        split
        next same => exact same ▸ others q other
        next => exact others q other
      unfold State.sent
      rw [mapTab_updAt (v := u.ports.port) (p := p) fun q other => PortState.takeRate_none (none' q other) g]
      rfl
    have ends : exec (.portRateChange p) s = ((s.sent g).arbitrate g).done := by
      show execPortRateChange p s = _
      rw [execPortRateChange, gate]
      dsimp only
      rw [State.transmitEnd_eq sends]
    have taken : ((u.ports.port[p]).rateReady g).takeRate = PortState.atRate rate u.ports.port[p] :=
      PortState.takeRate_of waits idle
    rw [State.modPort_congr taken] at sent
    have own : (u.modPort p (PortState.atRate rate)).quiet := by
      refine State.modPort_quiet (State.modPort_quiet_at (fun q _ => quiet q) fun _ => notice) fun x => ?_
      unfold PortState.atRate
      split <;> exact ⟨rfl, rfl⟩
    have keeps (x : PortState) : (x.atRate rate).tx = x.tx ∧ (x.atRate rate).noticeOwed = x.noticeOwed ∧
        (x.atRate rate).overruns = x.overruns ∧ (x.atRate rate).queue = x.queue := by
      unfold PortState.atRate
      split <;> exact ⟨rfl, rfl, rfl, rfl⟩
    have ended : u.ports.port[g] = { s.ports.port[g] with tx := none } := (at' g).trans (if_pos rfl)
    have port : ((s.sent g).ports.port[g]).tx = none ∧ ((s.sent g).ports.port[g]).noticeOwed = false ∧
        ((s.sent g).ports.port[g]).overruns = [] ∧ ((s.sent g).ports.port[g]).queue = [] := by
      rw [sent, State.modPort_at]
      split
      next same =>
        rw [same]
        obtain ⟨tx, owes, owed, queued⟩ := keeps u.ports.port[g]
        rw [tx, owes, owed, queued, ended]
        exact ⟨rfl, notice, overruns, queue⟩
      next =>
        rw [ended]
        exact ⟨rfl, notice, overruns, queue⟩
    obtain ⟨tx, owes, owed, queued⟩ := port
    rw [ends, State.arbitrate_idle tx owes owed queued, sent]
    exact State.done_of_quiet own

end Sys2Proof.Machine
end

section
/-! PROOF. The Reference Unit at its events: what a frame event, an absorbed pulse, the close of the window and a MARK
leave in it, and which alerts a part of a frame event can raise. -/

namespace Sys2Proof.Machine

open Relation

/-! ### Alerts of some kinds -/

/-- Between two states only alerts of the kinds `ks` have been raised. -/
structure State.Told (ks : List (Fin 22)) (s t : State) : Prop where
  routing : t.ports.routing = s.ports.routing
  others : ∀ (q : Port) (k : Fin 22), k ∉ ks → (t.ports.port[q]).alerts[k] = (s.ports.port[q]).alerts[k]

theorem State.Told.of_ports {s t : State} (ks : List (Fin 22)) (same : t.ports = s.ports) : State.Told ks s t :=
  ⟨by rw [same], fun _ _ _ => by rw [same]⟩

theorem State.Told.trans {s t u : State} {ks : List (Fin 22)} (a : State.Told ks s t) (b : State.Told ks t u) :
    State.Told ks s u :=
  ⟨b.routing.trans a.routing, fun q k other => (b.others q k other).trans (a.others q k other)⟩

theorem State.Told.mono {s t : State} {ks ls : List (Fin 22)} (a : State.Told ks s t) (more : ks ⊆ ls) :
    State.Told ls s t := ⟨a.routing, fun q k other => a.others q k fun there => other (more there)⟩

theorem State.raiseTogether_told {ks : List (Fin 22)} (s : State) (l : List (PortSet × Alert))
    (kinds : ∀ x ∈ l, x.2.kind ∈ ks) : State.Told ks s (s.raiseTogether l) :=
  ⟨s.raiseTogether_routing l, fun q _ other =>
    s.raiseTogether_other l q fun x there same => other (same ▸ kinds x there)⟩

theorem State.raiseRouted_told {k : Fin 22} (s : State) (a : Alert) (kind : a.kind = k) :
    State.Told [k] s (s.raiseRouted a) :=
  s.raiseTogether_told [(s.routingSet a, a)] (by simp [kind])

/-! ### Levels-ready and the end of a scan -/

theorem State.finishLevels_told (s : State) (c : Computation) : State.Told [5, 19] s (s.finishLevels c) := by
  unfold State.finishLevels
  dsimp only
  split
  · exact .of_ports _ rfl
  · refine State.Told.mono (ks := [5]) (State.Told.trans ?_ (State.raiseRouted_told _ _ rfl)) (by decide)
    exact .of_ports _ rfl

theorem State.mem_lineSkipAlerts {s : State} {lines : Vector Line 8} {frame : Frame} {images : LineNo → List Byte}
    {x : PortSet × Alert} (h : x ∈ lineSkipAlerts s lines frame images) : x.2.kind = 19 := by
  obtain ⟨i, -, skips⟩ := List.mem_filterMap.1 h
  obtain ⟨y, -, rfl⟩ := Option.map_eq_some_iff.1 skips
  rfl

theorem State.levelsReady_told (s : State) : State.Told [5, 19] s s.levelsReady := by
  unfold State.levelsReady
  split
  · exact .of_ports _ rfl
  · rename_i c _
    dsimp only
    refine ((s.finishLevels_told c).trans ?_).trans (State.raiseTogether_told _ _ fun x there => ?_)
    · exact .of_ports _ rfl
    · rw [State.mem_lineSkipAlerts there]
      decide

/-- What the Level Engine and the Line Drivers hold after levels-ready. -/
structure State.ComputationLeft (s : State) (c : Computation) (t : State) : Prop where
  contexts : t.level.contexts = c.contexts s.level.contexts
  results : t.level.results = c.results t.level.contexts
  comp : t.level.comp = none
  patch : t.level.patch = s.level.patch
  masters : t.level.masters = s.level.masters
  releaseFade : t.level.releaseFade = s.level.releaseFade
  clipFlags : t.level.clipFlags = s.level.clipFlags ||| setOf fun g => decide (0 < clipsOf c.patch t.level.results g)
  clipCounts : t.level.clipCounts = tab fun g => min 65535 (s.level.clipCounts[g] + clipsOf c.patch t.level.results g)

theorem State.finishLevels_left (s : State) (c : Computation) : s.ComputationLeft c (s.finishLevels c) := by
  unfold State.finishLevels
  dsimp only
  split <;> exact ⟨rfl, rfl, rfl, rfl, rfl, rfl, rfl, rfl⟩

/-- The blocks that neither a scan nor a computation writes. -/
structure State.SameShow (s t : State) : Prop where
  ref : t.ref = s.ref
  scene : t.scene = s.scene
  sources : t.wall.sources = s.wall.sources
  sets : t.wall.sets = s.wall.sets
  cue : t.cue = s.cue
  takeover : t.takeover = s.takeover
  access : t.access = s.access
  tally : t.tally = s.tally
  image : t.image = s.image

theorem State.SameShow.refl (s : State) : s.SameShow s := ⟨rfl, rfl, rfl, rfl, rfl, rfl, rfl, rfl, rfl⟩

theorem State.SameShow.trans {s t u : State} (a : s.SameShow t) (b : t.SameShow u) : s.SameShow u :=
  ⟨b.ref.trans a.ref, b.scene.trans a.scene, b.sources.trans a.sources, b.sets.trans a.sets, b.cue.trans a.cue,
    b.takeover.trans a.takeover, b.access.trans a.access, b.tally.trans a.tally, b.image.trans a.image⟩

theorem State.finishLevels_same (s : State) (c : Computation) : s.SameShow (s.finishLevels c) := by
  unfold State.finishLevels
  dsimp only
  split <;> exact ⟨rfl, rfl, rfl, rfl, rfl, rfl, rfl, rfl, rfl⟩

theorem State.finishLevels_lines (s : State) (c : Computation) :
    (s.finishLevels c).lines = s.lines ∧ (s.finishLevels c).wall = s.wall := by
  unfold State.finishLevels
  dsimp only
  split <;> exact ⟨rfl, rfl⟩

/-- Levels-ready ends the computation and hands its images to the lines. -/
theorem State.levelsReady_of {s : State} {c : Computation} (comp : s.level.comp = some c) : ∃ l, s.levelsReady =
    ({ s.finishLevels c with lines := tab fun i =>
        ((s.lines[i]).levelsReady c.frame (slotImage c.patch (s.finishLevels c).level.results i)).1 } : State).raiseTogether l := by
  unfold State.levelsReady
  rw [comp]
  dsimp only
  rw [(s.finishLevels_lines c).1]
  exact ⟨_, rfl⟩

theorem State.levelsReady_same (s : State) : s.SameShow s.levelsReady := by
  cases comp : s.level.comp with
  | none =>
    unfold State.levelsReady
    rw [comp]
    exact .refl s
  | some c =>
    obtain ⟨l, is⟩ := State.levelsReady_of comp
    rw [is]
    refine (s.finishLevels_same c).trans ?_
    constructor <;> simp

theorem State.levelsReady_of_none {s : State} (comp : s.level.comp = none) : s.levelsReady = s := by
  unfold State.levelsReady
  rw [comp]

theorem State.levelsReady_wall (s : State) : s.levelsReady.wall = s.wall := by
  cases comp : s.level.comp with
  | none => rw [State.levelsReady_of_none comp]
  | some c =>
    obtain ⟨l, is⟩ := State.levelsReady_of comp
    rw [is, State.raiseTogether_wall, (s.finishLevels_lines c).2]

theorem State.finishScan_same (s : State) : s.SameShow s.finishScan := by
  unfold State.finishScan
  split
  · exact .refl s
  · split <;> exact ⟨rfl, rfl, rfl, rfl, rfl, rfl, rfl, rfl, rfl⟩

theorem State.finishScan_level (s : State) : s.finishScan.level = s.level ∧ s.finishScan.ports = s.ports := by
  unfold State.finishScan
  split
  · exact ⟨rfl, rfl⟩
  · split <;> exact ⟨rfl, rfl⟩

/-- A set of a fold of unions. -/
theorem foldl_or_getLsbD {α : Type} {n : Nat} (l : List α) (p : α → Bool) (f : α → BitVec n) (m : BitVec n) (k : Nat) :
    (l.foldl (fun m i => if p i then m ||| f i else m) m).getLsbD k = true ↔
      m.getLsbD k = true ∨ ∃ i ∈ l, p i = true ∧ (f i).getLsbD k = true := by
  induction l generalizing m with
  | nil => simp
  | cons i l ih =>
    rw [List.foldl_cons, ih]
    by_cases is : p i = true
    · simp [is, or_assoc]
    · simp [is]

theorem setOf_getLsbD {n : Nat} (f : Fin n → Bool) (i : Fin n) : (setOf f).getLsbD i.val = true ↔ f i = true := by
  unfold setOf
  rw [foldl_or_getLsbD]
  simp only [List.mem_finRange, true_and, BitVec.getLsbD_twoPow, decide_eq_true_eq, Bool.and_eq_true, BitVec.ofNat_eq_ofNat,
    BitVec.getLsbD_zero, Bool.false_eq_true, false_or]
  constructor
  · rintro ⟨j, is, -, same⟩
    rwa [← Fin.ext same]
  · exact fun is => ⟨i, is, i.isLt, rfl⟩

/-- Settles O24: the computation's own values, and everything else but the alerts as it was. -/
theorem levelsReadyResults : Obligations.LevelsReadyResults := by
  intro s c comp
  obtain ⟨l, is⟩ := State.levelsReady_of comp
  have left := s.finishLevels_left c
  have same := s.levelsReady_same
  have level : s.levelsReady.level = (s.finishLevels c).level := by rw [is, State.raiseTogether_level]
  have lines : s.levelsReady.lines = tab fun i =>
      ((s.lines[i]).levelsReady c.frame (slotImage c.patch (s.finishLevels c).level.results i)).1 := by
    rw [is, State.raiseTogether_lines]
  refine ⟨s.levelsReady.startNotices, rfl, ?_, fun n => ?_, fun g => ?_, fun l => ?_, same.ref, same.scene,
    s.levelsReady_wall, same.cue, same.takeover, same.access, same.tally, same.image, ?_, ?_, ?_⟩
  · exact (congrArg LevelEngine.comp level).trans left.comp
  · have contexts : s.levelsReady.level.contexts[n] = c.fade n s.level.contexts[n] := by
      rw [level, left.contexts]
      exact tab_getElem _ _ n.isLt
    refine ⟨contexts, ?_⟩
    have results : s.levelsReady.level.results[n] = c.output n s.levelsReady.level.contexts[n] := by
      rw [level, left.results]
      exact tab_getElem _ _ n.isLt
    rw [contexts] at results
    exact results
  · have clips : s.levelsReady.level.clipFlags.getLsbD g.val = true ↔ s.level.clipFlags.getLsbD g.val = true ∨
        0 < clipsOf c.patch s.levelsReady.level.results g := by
      rw [level, left.clipFlags, BitVec.getLsbD_or, Bool.or_eq_true, setOf_getLsbD, decide_eq_true_eq]
    refine ⟨?_, clips⟩
    change s.levelsReady.level.clipCounts[g] = min 65535 (s.level.clipCounts[g] +
      clipsOf c.patch s.levelsReady.level.results g)
    rw [level, left.clipCounts]
    exact tab_getElem _ _ g.isLt
  · change s.levelsReady.lines[l] = ((s.lines[l]).levelsReady c.frame (slotImage c.patch s.levelsReady.level.results l)).1
    rw [lines, level]
    exact tab_getElem _ _ l.isLt
  · exact (congrArg LevelEngine.patch level).trans left.patch
  · exact (congrArg LevelEngine.masters level).trans left.masters
  · exact (congrArg LevelEngine.releaseFade level).trans left.releaseFade

theorem State.modLine_congr {s : State} {l : LineNo} {f g : Line → Line} (same : f s.lines[l] = g s.lines[l]) :
    s.modLine l f = s.modLine l g := by
  have lines : updAt s.lines l f = updAt s.lines l g := by
    unfold updAt
    rw [same]
  unfold State.modLine
  rw [lines]

theorem Line.levelsReady_idle {l : Line} (on : l.enabled = true) (idle : l.inFlight = none) (frame : Frame)
    (image : List Byte) : l.levelsReady frame image = (l.startPacket frame image, none) := by
  unfold Line.levelsReady
  rw [on, idle]

theorem Line.packetEnd_waiting {l : Line} {f : InFlight} {w : Waiting} (sends : l.inFlight = some f)
    (on : l.enabled = true) (waits : l.waiting = some w) :
    l.packetEnd = ({ l with lastPacket := some f.frame, inFlight := none } : Line).startPacket w.frame w.image := by
  unfold Line.packetEnd
  rw [sends, on, waits]

theorem Line.packetEnd_rests {l : Line} {f : InFlight} (sends : l.inFlight = some f)
    (rests : l.enabled = false ∨ l.waiting = none) :
    l.packetEnd = { l with lastPacket := some f.frame, inFlight := none } := by
  unfold Line.packetEnd
  rw [sends]
  cases on : l.enabled with
  | false => rfl
  | true =>
    rw [on] at rests
    rw [rests.resolve_left (by decide)]

/-- Settles O26: the line's table, case by case. -/
theorem linesSendComputations : Obligations.LinesSendComputations := by
  refine ⟨fun l frame image => ⟨fun off => ?_, fun on idle => ?_, fun on sends free => ?_, fun m on sends waits => ?_⟩,
    fun s l f sends => ⟨fun w on waits => ?_, fun rests => ?_⟩⟩
  · unfold Line.levelsReady
    rw [off]
  · exact Line.levelsReady_idle on idle frame image
  · obtain ⟨f, sends⟩ := Option.isSome_iff_exists.1 sends
    unfold Line.levelsReady
    rw [on, sends, free]
  · obtain ⟨f, sends⟩ := Option.isSome_iff_exists.1 sends
    unfold Line.levelsReady
    rw [on, sends, waits]
  · exact congrArg Host.Outcome.next (State.modLine_congr (Line.packetEnd_waiting sends on waits))
  · exact congrArg Host.Outcome.next (State.modLine_congr (Line.packetEnd_rests sends rests))

end Sys2Proof.Machine
end

section
/-! PROOF. A frame event and a MARK as wholes: the Reference Unit after them, the blocks that they leave alone and the
alerts of the lock. -/

namespace Sys2Proof.Machine

open Relation

/-! ### The MARK -/

/-- The blocks that no MARK writes. -/
structure State.MarkKeeps (s t : State) : Prop where
  ref : t.ref = s.ref
  wall : t.wall = s.wall
  lines : t.lines = s.lines
  access : t.access = s.access
  image : t.image = s.image
  routing : t.ports.routing = s.ports.routing
  tally : t.tally = { s.tally with queue := t.tally.queue }
  program : t.scene.program = s.scene.program
  taken : s.scene.trans.TakenTo t.scene.trans

theorem Transition.TakenTo.trans {t u v : Transition} (a : t.TakenTo u) (b : u.TakenTo v) : t.TakenTo v := by
  refine ⟨fun n is => b.1 n (a.1 n is), fun r is => ?_⟩
  rcases a.2 r is with same | hurried
  · exact b.2 r same
  · rcases b.2 _ hurried with same | again
    · exact .inr same
    · exact .inr again

theorem State.MarkKeeps.refl (s : State) : s.MarkKeeps s := ⟨rfl, rfl, rfl, rfl, rfl, rfl, rfl, rfl, .refl _⟩

theorem State.MarkKeeps.trans {s t u : State} (a : s.MarkKeeps t) (b : t.MarkKeeps u) : s.MarkKeeps u :=
  ⟨b.ref.trans a.ref, b.wall.trans a.wall, b.lines.trans a.lines, b.access.trans a.access, b.image.trans a.image,
    b.routing.trans a.routing, by rw [b.tally, a.tally], b.program.trans a.program, a.taken.trans b.taken⟩

theorem State.ShowChange.markKeeps {s t : State} (c : s.ShowChange t) : s.MarkKeeps t := by
  cases c with
  | alert d a => exact ⟨rfl, rfl, rfl, rfl, rfl, rfl, rfl, rfl, .refl _⟩
  | scene m program trans => exact ⟨rfl, rfl, rfl, rfl, rfl, rfl, rfl, program, trans⟩
  | _ => exact ⟨rfl, rfl, rfl, rfl, rfl, rfl, rfl, rfl, .refl _⟩

theorem State.MarkChange.markKeeps {s t : State} (c : s.MarkChange t) : s.MarkKeeps t := by
  cases c with
  | running c => exact c.markKeeps
  | override => exact ⟨rfl, rfl, rfl, rfl, rfl, rfl, rfl, rfl, .refl _⟩
  | repeats => exact ⟨rfl, rfl, rfl, rfl, rfl, rfl, rfl, rfl, .refl _⟩

theorem State.markSteps_markKeeps (s : State) (order : List Nat) : s.MarkKeeps (s.markSteps order) :=
  State.markSteps_keeps (P := fun t => s.MarkKeeps t) (fun _ _ c h => h.trans c.markKeeps) s order (.refl s)

theorem State.owedMark_of_none {s : State} (due : s.ref.markDue = none) (order : List Nat) : s.owedMark order = s := by
  unfold State.owedMark
  rw [due]
  rfl

theorem State.owedMark_of_some {s : State} {n : Nat} (due : s.ref.markDue = some n) (order : List Nat) :
    s.owedMark order = s.issueMark order := by
  unfold State.owedMark
  rw [due]
  rfl

theorem State.issueMark_ref (s : State) (order : List Nat) :
    (s.issueMark order).ref = { s.ref with markDue := none } := by
  have same := (s.markSteps_markKeeps order).ref
  unfold State.issueMark State.modRef
  dsimp only
  rw [same]

theorem State.owedMark_ref (s : State) (order : List Nat) :
    (s.owedMark order).ref = { s.ref with markDue := none } := by
  cases due : s.ref.markDue with
  | none => rw [State.owedMark_of_none due, ← due]
  | some n => rw [State.owedMark_of_some due, State.issueMark_ref]

/-- Settles O17: a MARK is a run of changes, none of which touches the kept blocks. -/
theorem markIsIssuedOnce : Obligations.MarkIsIssuedOnce := by
  refine fun s order => ⟨fun ⟨n, due⟩ => ?_, fun quiet due => ?_⟩
  · have keeps := s.markSteps_markKeeps order
    refine ⟨(s.owedMark order).startNotices, rfl, s.owedMark_ref order, ?_⟩
    rw [State.owedMark_of_some due]
    exact ⟨keeps.wall, keeps.lines, keeps.access, keeps.image, keeps.routing⟩
  · change (s.owedMark order).done = .next s
    rw [State.owedMark_of_none due]
    exact State.done_of_quiet quiet

/-! ### The frame event -/

/-- The state at a frame event after the scan, the computation and the owed MARK before it (R6). -/
def State.beforeFrame (s : State) (order : List Nat) : State := s.finishScan.levelsReady.owedMark order

/-- The state after the close of the window before a frame event, with the new frame not yet counted. -/
def State.frameOpened (s : State) (ev : FrameEvent) : State :=
  (s.beforeFrame ev.inputs.order).closeWindow.modRef fun r => r.opened (s.eventInstant ev.cause) (originOf ev.cause)

theorem State.openFrame_eq (s : State) (ev : FrameEvent) :
    s.openFrame ev = (s.frameOpened ev).countFrame (originOf ev.cause) := rfl

/-- The blocks beside the Reference Unit and the ports. -/
structure State.SameBlocks (s t : State) : Prop where
  scene : t.scene = s.scene
  wall : t.wall = s.wall
  level : t.level = s.level
  lines : t.lines = s.lines
  cue : t.cue = s.cue
  takeover : t.takeover = s.takeover
  access : t.access = s.access
  tally : t.tally = s.tally

theorem State.SameBlocks.trans {s t u : State} (a : s.SameBlocks t) (b : t.SameBlocks u) : s.SameBlocks u :=
  ⟨b.scene.trans a.scene, b.wall.trans a.wall, b.level.trans a.level, b.lines.trans a.lines, b.cue.trans a.cue,
    b.takeover.trans a.takeover, b.access.trans a.access, b.tally.trans a.tally⟩

theorem State.closeWindow_same (s : State) : s.SameBlocks s.closeWindow := by
  rw [State.closeWindow_eq]
  split <;> exact ⟨rfl, rfl, rfl, rfl, rfl, rfl, rfl, rfl⟩

theorem State.countFrame_same (s : State) (o : Origin) : s.SameBlocks (s.countFrame o) := by
  rw [State.countFrame_eq]
  split <;> exact ⟨rfl, rfl, rfl, rfl, rfl, rfl, rfl, rfl⟩

theorem State.closeWindow_ref (s : State) : s.closeWindow.ref = s.ref.closed := by
  rw [State.closeWindow_eq]
  split <;> rfl

theorem State.countFrame_ref (s : State) (o : Origin) : (s.countFrame o).ref = s.ref.counted o := by
  rw [State.countFrame_eq]
  split <;> rfl

theorem State.closeWindow_told (s : State) : State.Told [0] s s.closeWindow := by
  rw [State.closeWindow_eq]
  split
  · refine State.Told.trans ?_ (State.raiseRouted_told _ _ rfl)
    exact .of_ports _ rfl
  · exact .of_ports _ rfl

theorem State.countFrame_told (s : State) (o : Origin) : State.Told [1] s (s.countFrame o) := by
  rw [State.countFrame_eq]
  split
  · refine State.Told.trans ?_ (State.raiseRouted_told _ _ rfl)
    exact .of_ports _ rfl
  · exact .of_ports _ rfl

theorem State.frameOpened_same (s : State) (ev : FrameEvent) :
    (s.beforeFrame ev.inputs.order).SameBlocks (s.frameOpened ev) :=
  (State.closeWindow_same _).trans ⟨rfl, rfl, rfl, rfl, rfl, rfl, rfl, rfl⟩

theorem State.openFrame_same (s : State) (ev : FrameEvent) :
    (s.beforeFrame ev.inputs.order).SameBlocks (s.openFrame ev) :=
  (s.frameOpened_same ev).trans (State.countFrame_same _ _)

theorem RefUnit.closed_rest (r : RefUnit) : r.closed = { r with
    lock := r.closed.lock, flywheel := r.closed.flywheel, lead := r.closed.lead, windowOpen := r.closed.windowOpen } := by
  unfold RefUnit.closed
  split
  · split
    · split <;> rfl
    · rfl
    · rfl
  · rfl

theorem RefUnit.opened_unmarked (r : RefUnit) (now : Nat) (o : Origin) :
    ({ r with markDue := none } : RefUnit).closed.opened now o = r.closed.opened now o := by
  unfold RefUnit.closed RefUnit.opened
  dsimp only
  split
  · split
    · split <;> rfl
    · rfl
    · rfl
  · rfl

theorem State.beforeFrame_ref (s : State) (order : List Nat) :
    (s.beforeFrame order).ref = { s.ref with markDue := none } := by
  unfold State.beforeFrame
  rw [State.owedMark_ref, (State.levelsReady_same _).ref, s.finishScan_same.ref]

theorem State.frameOpened_ref (s : State) (ev : FrameEvent) : (s.frameOpened ev).ref =
    s.ref.closed.opened (s.eventInstant ev.cause) (originOf ev.cause) := by
  change ((s.beforeFrame ev.inputs.order).closeWindow.ref).opened _ _ = _
  rw [State.closeWindow_ref, State.beforeFrame_ref, RefUnit.opened_unmarked]

/-- The Reference Unit after a frame event: its window closed, the frame opened and then counted (R5, R7, R8). -/
theorem State.openFrame_ref (s : State) (ev : FrameEvent) : (s.openFrame ev).ref =
    (s.ref.closed.opened (s.eventInstant ev.cause) (originOf ev.cause)).counted (originOf ev.cause) := by
  rw [State.openFrame_eq, State.countFrame_ref, State.frameOpened_ref]

theorem RefUnit.counted_rest (r : RefUnit) (o : Origin) : r.counted o = { r with
    lock := (r.counted o).lock, flywheel := (r.counted o).flywheel, lead := (r.counted o).lead } := by
  unfold RefUnit.counted
  split
  · split <;> rfl
  · split
    · rfl
    · split <;> rfl

theorem State.openFrame_counter (s : State) (ev : FrameEvent) : (s.openFrame ev).ref.counter = s.ref.counter + 1 := by
  rw [State.openFrame_ref, RefUnit.counted_rest, RefUnit.closed_rest]
  rfl

theorem State.mem_sourceAlerts {s : State} {before : Vector SourcePort 4} {which : SourceAlert}
    {mk : SourceNo → Frame → Alert} {x : PortSet × Alert} (h : x ∈ sourceAlerts s before which mk) :
    ∃ i : SourceNo, (before[i]).step.2 = some which ∧ x = (s.routingSet (mk i s.ref.counter), mk i s.ref.counter) := by
  obtain ⟨i, there, rfl⟩ := List.mem_map.1 h
  exact ⟨i, of_decide_eq_true (List.mem_filter.1 there).2, rfl⟩

theorem State.stepSources_told (s : State) : State.Told [2, 3, 4] s s.stepSources := by
  have told (u : State) (which : SourceAlert) (mk : SourceNo → Frame → Alert)
      (kind : ∀ i now, (mk i now).kind ∈ [(2 : Fin 22), 3, 4]) :
      State.Told [2, 3, 4] u (u.raiseTogether (sourceAlerts s s.wall.sources which mk)) := by
    refine u.raiseTogether_told _ fun x there => ?_
    obtain ⟨i, -, rfl⟩ := State.mem_sourceAlerts there
    exact kind i _
  unfold State.stepSources
  dsimp only
  refine State.Told.trans (State.Told.trans (State.Told.trans ?_ (told _ _ _ ?_)) (told _ _ _ ?_)) (told _ _ _ ?_)
  · exact .of_ports _ rfl
  all_goals
    intro i now
    simp [Alert.kind]

theorem State.mem_autoGrants {s : State} {view : FrameView} {x : PortSet × Alert} (h : x ∈ s.autoGrants view) :
    ∃ (id : ClaimId) (c : Claim) (w : Contest), s.access.claims[id] = some c ∧ s.claimStep view c = .moves w ∧
      x = (onlyPort w.waiting, .handoverGranted id c.owner .auto s.ref.counter) := by
  obtain ⟨id, -, is⟩ := List.mem_filterMap.1 h
  unfold State.entryStep at is
  split at is
  · rename_i c w used moves
    rw [used] at moves
    exact ⟨id, c, w, used, moves, (Option.some.inj is).symm⟩
  · cases is

theorem State.mem_expiries {s : State} {view : FrameView} {x : PortSet × Alert} (h : x ∈ s.expiries view) :
    ∃ (id : ClaimId) (w : Contest), s.entryStep view id = .expires w ∧
      x = (onlyPort w.waiting, .handoverTimeout id .expired s.ref.counter) := by
  obtain ⟨id, -, is⟩ := List.mem_filterMap.1 h
  split at is
  · rename_i w expires
    exact ⟨id, w, expires, (Option.some.inj is).symm⟩
  · cases is

theorem State.stepClaims_told (s : State) (view : FrameView) : State.Told [15, 16] s (s.stepClaims view) := by
  unfold State.stepClaims
  dsimp only
  refine State.Told.trans (State.Told.trans ?_ (State.raiseTogether_told _ _ fun x there => ?_))
    (State.raiseTogether_told _ _ fun x there => ?_)
  · exact .of_ports _ rfl
  · obtain ⟨id, c, w, -, -, rfl⟩ := State.mem_autoGrants there
    exact .head _
  · obtain ⟨id, w, -, rfl⟩ := State.mem_expiries there
    exact .tail _ (.head _)

theorem State.frameBlocks_told (s : State) (tally : BitVec 16) : State.Told [2, 3, 4, 15, 16] s (s.frameBlocks tally) := by
  rw [State.frameBlocks_eq]
  have sources : State.Told [2, 3, 4, 15, 16] s.sceneStepped s.sceneStepped.stepSources :=
    (State.stepSources_told _).mono (by decide)
  have claims := (State.stepClaims_told (s.sceneStepped.stepSources.tallySampled tally) s.nextView).mono
    (ls := [2, 3, 4, 15, 16]) (by decide)
  exact ⟨claims.routing.trans sources.routing, fun q k other => (claims.others q k other).trans (sources.others q k other)⟩

theorem State.frameBlocks_ref (s : State) (tally : BitVec 16) : (s.frameBlocks tally).ref = s.ref := by
  rw [State.frameBlocks_eq]
  simp [State.startComputation, State.startScan, State.stepClaims, State.tallySampled, State.stepSources,
    State.sceneStepped]

theorem State.frame_ref (s : State) (ev : FrameEvent) : (s.frame ev).ref =
    (s.ref.closed.opened (s.eventInstant ev.cause) (originOf ev.cause)).counted (originOf ev.cause) :=
  (State.frameBlocks_ref _ _).trans (s.openFrame_ref ev)

theorem exec_pulse_leads {s : State} {e : Nat} (leads : s.ref.frameRate.half ≤ e) (inputs : FrameIn) :
    exec (.referencePulse e inputs) s = .next (s.frame ⟨.pulse e, inputs⟩).startNotices := by
  change execReferencePulse e inputs s = _
  unfold execReferencePulse
  rw [if_pos (show s.leads (.pulse e) = true from decide_eq_true leads)]
  rfl

theorem exec_pulse_absorbed {s : State} {e : Nat} (within' : e < s.ref.frameRate.half) (inputs : FrameIn) :
    exec (.referencePulse e inputs) s = (s.absorb e).done := by
  change execReferencePulse e inputs s = _
  unfold execReferencePulse
  rw [if_neg (show ¬ s.leads (.pulse e) = true from fun h => absurd (of_decide_eq_true h) (Nat.not_le.2 within'))]

/-- Settles O13: the fields of the frame are those of its opening, which the count leaves alone. -/
theorem frameEventsStartFrames : Obligations.FrameEventsStartFrames := by
  intro s inputs
  have fields (ev : FrameEvent) : (s.frame ev).ref.counter = s.ref.counter + 1 ∧
      (s.frame ev).ref.origin = originOf ev.cause ∧ (s.frame ev).ref.windowOpen = true ∧
      (s.frame ev).ref.rate = s.ref.rate ∧ (s.frame ev).ref.frameRate = s.ref.rate ∧
      (s.frame ev).ref.lastEvent = s.eventInstant ev.cause ∧
      (s.frame ev).ref.markDue = some (s.eventInstant ev.cause + s.ref.rate.half) ∧
      (s.frame ev).ref.expiry = s.eventInstant ev.cause + s.ref.rate.period := by
    rw [State.frame_ref, RefUnit.counted_rest, RefUnit.closed_rest]
    exact ⟨rfl, rfl, rfl, rfl, rfl, rfl, rfl, rfl⟩
  exact ⟨⟨_, rfl, fields ⟨.clock, inputs⟩⟩, fun e leads => ⟨_, exec_pulse_leads leads inputs, fields ⟨.pulse e, inputs⟩⟩⟩

/-! ### The lock -/

theorem RefUnit.counted_locked {r : RefUnit} (lock : r.lock = .locked) :
    r.counted .clock = { r with flywheel := r.flywheel + 1 } ∧ r.counted .pulse = { r with flywheel := 0 } := by
  unfold RefUnit.counted
  rw [lock]
  exact ⟨rfl, rfl⟩

theorem RefUnit.counted_free {r : RefUnit} (lock : r.lock = .free) :
    r.counted .clock = r ∧ (r.lead = 0 → r.counted .pulse = { r with lead := 1 }) ∧
      (1 ≤ r.lead → r.counted .pulse = { r with lock := .locked, flywheel := 0, lead := 0 }) := by
  unfold RefUnit.counted
  rw [lock]
  refine ⟨rfl, fun none => ?_, fun one => if_pos (Nat.succ_le_succ one)⟩
  rw [none]
  rfl

theorem RefUnit.regains_of {r : RefUnit} (lock : r.lock = .free) (one : 1 ≤ r.lead) : r.regains .pulse = true :=
  decide_eq_true ⟨rfl, lock, Nat.succ_le_succ one⟩

/-- The close of the window by lock and origin: what the table of R8 gives. -/
theorem RefUnit.closed_shut {r : RefUnit} (shut : r.windowOpen = false) : r.closed = r := by
  unfold RefUnit.closed
  rw [shut]
  rfl

theorem RefUnit.closed_pulse {r : RefUnit} (opened : r.windowOpen = true) (origin : r.origin = .pulse) :
    r.closed = { r with windowOpen := false } ∧ r.loses = false := by
  constructor
  · unfold RefUnit.closed
    rw [if_pos opened]
    split
    · simp_all
    · simp_all
    · rfl
  · simp [RefUnit.loses, origin]

theorem RefUnit.closed_free {r : RefUnit} (opened : r.windowOpen = true) (origin : r.origin = .clock)
    (lock : r.lock = .free) : r.closed = { r with windowOpen := false, lead := 0 } ∧ r.loses = false := by
  constructor
  · unfold RefUnit.closed
    rw [if_pos opened]
    split <;> simp_all
  · simp [RefUnit.loses, lock]

theorem RefUnit.closed_flywheels {r : RefUnit} (opened : r.windowOpen = true) (origin : r.origin = .clock)
    (lock : r.lock = .locked) (few : r.flywheel ≤ 2) : r.closed = { r with windowOpen := false } ∧ r.loses = false := by
  have below : ¬ 3 ≤ r.flywheel := by omega
  constructor
  · unfold RefUnit.closed
    rw [if_pos opened]
    split <;> simp_all
  · simp [RefUnit.loses, below]

theorem RefUnit.closed_lost {r : RefUnit} (opened : r.windowOpen = true) (origin : r.origin = .clock)
    (lock : r.lock = .locked) (three : r.flywheel = 3) :
    r.closed = { r with windowOpen := false, lock := .free, flywheel := 0, lead := 0 } ∧ r.loses = true := by
  constructor
  · unfold RefUnit.closed
    rw [if_pos opened]
    split <;> simp_all
  · simp [RefUnit.loses, opened, origin, lock, three]

/-- A LOCKED window that closes without losing the lock. -/
theorem RefUnit.closed_keeps {r : RefUnit} (opened : r.windowOpen = true) (lock : r.lock = .locked)
    (holds : r.origin = .pulse ∨ r.flywheel ≤ 2) : r.closed = { r with windowOpen := false } := by
  by_cases origin : r.origin = .pulse
  · exact (RefUnit.closed_pulse opened origin).1
  · have clock : r.origin = .clock := by
      cases is : r.origin with
      | pulse => exact absurd is origin
      | clock => rfl
    exact (RefUnit.closed_flywheels opened clock lock (holds.resolve_left origin)).1

theorem State.routingSet_lost (s : State) (now : Frame) : s.routingSet (.refLost now) = s.ports.routing[(0 : Fin 16)] := rfl
theorem State.routingSet_regained (s : State) (now : Frame) :
    s.routingSet (.refRegained now) = s.ports.routing[(1 : Fin 16)] := rfl

theorem State.beforeFrame_routing (s : State) (order : List Nat) :
    (s.beforeFrame order).ports.routing = s.ports.routing := by
  have levels : s.finishScan.levelsReady.ports.routing = s.ports.routing :=
    (State.levelsReady_told _).routing.trans (congrArg PortController.routing s.finishScan_level.2)
  unfold State.beforeFrame
  cases due : s.finishScan.levelsReady.ref.markDue with
  | none => rw [State.owedMark_of_none due, levels]
  | some n =>
    rw [State.owedMark_of_some due]
    exact (State.markSteps_markKeeps _ order).routing.trans levels

theorem State.openFrame_routing (s : State) (ev : FrameEvent) : (s.openFrame ev).ports.routing = s.ports.routing := by
  refine (State.countFrame_told _ _).routing.trans ((State.closeWindow_told _).routing.trans ?_)
  exact s.beforeFrame_routing _

theorem State.raiseRouted_alert {s : State} {a : Alert} {q : Port} (into : (s.routingSet a).getLsbD q.val = true) :
    (((s.raiseRouted a).ports.port[q]).alerts[a.kind]).map AlertEntry.alert = some a := by
  unfold State.raiseRouted
  rw [State.raiseTo_at, if_pos into, PortState.receive_alerts, if_pos rfl]
  rfl

/-- The lock lost at a frame event is told to the ports of its routing set. -/
theorem State.frame_lost {s : State} (loses : s.ref.loses = true) (ev : FrameEvent) {q : Port}
    (into : (s.ports.routing[(0 : Fin 16)]).getLsbD q.val = true) :
    (((s.frame ev).ports.port[q]).alerts[(0 : Fin 22)]).map AlertEntry.alert = some (.refLost s.ref.counter) := by
  have same := s.beforeFrame_ref ev.inputs.order
  have closes : (s.beforeFrame ev.inputs.order).closeWindow =
      ((s.beforeFrame ev.inputs.order).modRef RefUnit.closed).raiseRouted (.refLost s.ref.counter) := by
    rw [State.closeWindow_eq, same]
    exact if_pos loses
  have told : (((s.beforeFrame ev.inputs.order).closeWindow.ports.port[q]).alerts[(0 : Fin 22)]).map AlertEntry.alert =
      some (.refLost s.ref.counter) := by
    rw [closes]
    refine State.raiseRouted_alert ?_
    rw [State.routingSet_lost]
    exact s.beforeFrame_routing ev.inputs.order ▸ into
  rw [State.frame, (State.frameBlocks_told _ _).others q 0 (by decide), State.openFrame_eq,
    (State.countFrame_told _ _).others q 0 (by decide)]
  exact told

/-- The lock regained at a frame event is told to the ports of its routing set. -/
theorem State.frame_regained {s : State} {ev : FrameEvent}
    (regains : (s.ref.closed.opened (s.eventInstant ev.cause) (originOf ev.cause)).regains (originOf ev.cause) = true)
    {q : Port} (into : (s.ports.routing[(1 : Fin 16)]).getLsbD q.val = true) :
    (((s.frame ev).ports.port[q]).alerts[(1 : Fin 22)]).isSome = true := by
  rw [State.frame, (State.frameBlocks_told _ _).others q 1 (by decide), State.openFrame_eq, State.countFrame_eq,
    State.frameOpened_ref, if_pos regains]
  have raised := State.raiseRouted_alert (a := .refRegained (s.ref.closed.opened (s.eventInstant ev.cause)
    (originOf ev.cause)).counter) (q := q) (s := (s.frameOpened ev).modRef fun r => r.counted (originOf ev.cause)) <| by
      rw [State.routingSet_regained]
      refine (congrArg (fun r : Vector PortSet 16 => (r[(1 : Fin 16)]).getLsbD q.val) ?_).trans into
      exact (State.closeWindow_told _).routing.trans (s.beforeFrame_routing ev.inputs.order)
  obtain ⟨e, is, -⟩ := Option.map_eq_some_iff.1 raised
  exact Option.isSome_of_eq_some is

theorem State.frame_clock (s : State) (inputs : FrameIn) :
    (s.frame ⟨.clock, inputs⟩).ref = (s.ref.closed.opened s.ref.expiry .clock).counted .clock := s.frame_ref _

theorem State.frame_pulse (s : State) (e : Nat) (inputs : FrameIn) :
    (s.frame ⟨.pulse e, inputs⟩).ref = (s.ref.closed.opened (s.ref.lastEvent + e) .pulse).counted .pulse := s.frame_ref _

/-- Settles O14: the close of the window and the count of the new frame, one after the other. -/
theorem lockAccountingAtFrames : Obligations.LockAccountingAtFrames := by
  intro s t inputs e
  have clock (ran : exec (.localClockExpiry inputs) s = .next t) :
      t = (s.frame ⟨.clock, inputs⟩).startNotices := (Host.Outcome.next.inj ran).symm
  have pulse (leads : s.ref.frameRate.half ≤ e) (ran : exec (.referencePulse e inputs) s = .next t) :
      t = (s.frame ⟨.pulse e, inputs⟩).startNotices :=
    (Host.Outcome.next.inj ((exec_pulse_leads leads inputs).symm.trans ran)).symm
  have regained (leads : s.ref.frameRate.half ≤ e) (ran : exec (.referencePulse e inputs) s = .next t)
      (lock : s.ref.closed.lock = .free) (one : 1 ≤ s.ref.closed.lead) (q : Port)
      (into : (s.ports.routing[1]).getLsbD q.val = true) : ((t.ports.port[q]).alerts[1]).isSome = true := by
    rw [pulse leads ran]
    refine (congrArg (fun a : Vector (Option AlertEntry) 22 => (a[1]).isSome) (State.startNotices_alerts _ q)).trans ?_
    exact State.frame_regained (s := s) (ev := ⟨.pulse e, inputs⟩) (RefUnit.regains_of lock one) into
  have clockRef (ran : exec (.localClockExpiry inputs) s = .next t) :
      t.ref = (s.ref.closed.opened s.ref.expiry .clock).counted .clock := by
    rw [clock ran, State.startNotices_ref, State.frame_clock]
  have pulseRef (leads : s.ref.frameRate.half ≤ e) (ran : exec (.referencePulse e inputs) s = .next t) :
      t.ref = (s.ref.closed.opened (s.ref.lastEvent + e) .pulse).counted .pulse := by
    rw [pulse leads ran, State.startNotices_ref, State.frame_pulse]
  refine ⟨fun shut => ⟨fun ran => ?_, fun leads ran => ⟨fun lock => ?_, fun lock none => ?_, fun lock one => ?_⟩⟩,
    fun opened => ⟨fun ran => ⟨fun lock holds => ?_, fun lock origin three => ?_, fun lock origin => ?_,
      fun lock origin => ?_⟩, fun leads ran => ⟨fun lock holds => ?_, fun lock origin three => ?_, fun lock first => ?_,
      fun lock origin one => ?_⟩, fun lock origin three ran q into => ?_⟩⟩
  · rw [clockRef ran, RefUnit.closed_shut shut]
    cases lock : s.ref.lock with
    | locked =>
      rw [(RefUnit.counted_locked (r := s.ref.opened _ _) lock).1]
      exact ⟨lock, rfl, fun _ => rfl, fun h => (nomatch h)⟩
    | free =>
      rw [(RefUnit.counted_free (r := s.ref.opened _ _) lock).1]
      exact ⟨lock, rfl, fun h => (nomatch h), fun _ => rfl⟩
  · rw [pulseRef leads ran, RefUnit.closed_shut shut, (RefUnit.counted_locked (r := s.ref.opened _ _) lock).2]
    exact ⟨lock, rfl, rfl⟩
  · rw [pulseRef leads ran, RefUnit.closed_shut shut, (RefUnit.counted_free (r := s.ref.opened _ _) lock).2.1 none]
    exact ⟨lock, rfl, rfl⟩
  · have closed := RefUnit.closed_shut shut
    refine and_assoc.1 (and_assoc.1 ⟨?_, regained leads ran (closed.symm ▸ lock) (closed.symm ▸ one)⟩)
    rw [pulseRef leads ran, closed, (RefUnit.counted_free (r := s.ref.opened _ _) lock).2.2 one]
    exact ⟨⟨rfl, rfl⟩, rfl⟩
  · rw [clockRef ran, RefUnit.closed_keeps opened lock holds,
      (RefUnit.counted_locked (r := RefUnit.opened { s.ref with windowOpen := false } _ _) lock).1]
    exact ⟨lock, rfl, rfl⟩
  · rw [clockRef ran, (RefUnit.closed_lost opened origin lock three).1,
      (RefUnit.counted_free (r := RefUnit.opened _ _ _) rfl).1]
    exact ⟨rfl, rfl, rfl⟩
  · rw [clockRef ran, (RefUnit.closed_free opened origin lock).1,
      (RefUnit.counted_free (r := RefUnit.opened { s.ref with windowOpen := false, lead := 0 } _ _) lock).1]
    exact ⟨lock, rfl, rfl⟩
  · rw [clockRef ran, (RefUnit.closed_pulse opened origin).1,
      (RefUnit.counted_free (r := RefUnit.opened { s.ref with windowOpen := false } _ _) lock).1]
    exact ⟨lock, rfl, rfl⟩
  · rw [pulseRef leads ran, RefUnit.closed_keeps opened lock holds,
      (RefUnit.counted_locked (r := RefUnit.opened { s.ref with windowOpen := false } _ _) lock).2]
    exact ⟨lock, rfl, rfl⟩
  · rw [pulseRef leads ran, (RefUnit.closed_lost opened origin lock three).1,
      (RefUnit.counted_free (r := RefUnit.opened _ _ _) rfl).2.1 rfl]
    exact ⟨rfl, rfl, rfl⟩
  · rw [pulseRef leads ran]
    cases origin : s.ref.origin with
    | clock =>
      rw [(RefUnit.closed_free opened origin lock).1,
        (RefUnit.counted_free (r := RefUnit.opened { s.ref with windowOpen := false, lead := 0 } _ _) lock).2.1 rfl]
      exact ⟨lock, rfl, rfl⟩
    | pulse =>
      have none : s.ref.lead = 0 := first.resolve_left (by rw [origin]; decide)
      rw [(RefUnit.closed_pulse opened origin).1,
        (RefUnit.counted_free (r := RefUnit.opened { s.ref with windowOpen := false } _ _) lock).2.1 none]
      exact ⟨lock, rfl, rfl⟩
  · have closed := (RefUnit.closed_pulse opened origin).1
    refine and_assoc.1 (and_assoc.1 ⟨?_, regained leads ran (closed.symm ▸ lock) (closed.symm ▸ one)⟩)
    rw [pulseRef leads ran, closed,
      (RefUnit.counted_free (r := RefUnit.opened { s.ref with windowOpen := false } _ _) lock).2.2 one]
    exact ⟨⟨rfl, rfl⟩, rfl⟩
  · have loses := (RefUnit.closed_lost opened origin lock three).2
    have lost (ev : FrameEvent) (is : t = (s.frame ev).startNotices) :
        ((t.ports.port[q]).alerts[0]).map AlertEntry.alert = some (.refLost s.ref.counter) := by
      rw [is]
      refine (congrArg (fun a : Vector (Option AlertEntry) 22 => (a[0]).map AlertEntry.alert)
        (State.startNotices_alerts _ q)).trans ?_
      exact State.frame_lost loses ev into
    rcases ran with ran | ⟨leads, ran⟩
    · exact lost _ (clock ran)
    · exact lost _ (pulse leads ran)

/-! ### Within a frame (R3) -/

theorem State.closeWindow_holds {s : State} (holds : s.ref.loses = false) : s.closeWindow = s.modRef RefUnit.closed := by
  rw [State.closeWindow_eq, holds]
  rfl

/-- The Reference Unit after the first absorbed pulse of a CLOCK frame, not yet counted (R3). -/
def RefUnit.ledByPulse (r : RefUnit) (e : Nat) : RefUnit := { r.absorbed e with origin := .pulse }

theorem State.absorb_counts {s : State} (origin : s.ref.origin = .clock) (e : Nat) : s.absorb e =
    if (s.ref.ledByPulse e).regains .pulse then
      ({ s with ref := (s.ref.ledByPulse e).counted .pulse } : State).raiseRouted (.refRegained s.ref.counter)
    else { s with ref := (s.ref.ledByPulse e).counted .pulse } := by
  rw [State.absorb_eq, origin]
  dsimp only
  rw [State.countFrame_eq]
  rfl

theorem RefUnit.regains_not {r : RefUnit} (rest : r.lock = .locked ∨ r.lead = 0) : r.regains .pulse = false :=
  decide_eq_false fun h => rest.elim (fun lock => by rw [lock] at h; exact nomatch h.2.1) fun none => by
    rw [none] at h; exact absurd h.2.2 (by decide)

theorem State.done_of_ref {s : State} (quiet : s.quiet) (r : RefUnit) :
    ({ s with ref := r } : State).done = .next { s with ref := r } := State.done_of_quiet (quiet.of_ports rfl)

/-- An absorbed pulse that does not return the lock. -/
theorem State.absorb_still {s : State} (quiet : s.quiet) {e : Nat} {r : RefUnit} (origin : s.ref.origin = .clock)
    (rest : s.ref.lock = .locked ∨ s.ref.lead = 0) (counted : (s.ref.ledByPulse e).counted .pulse = r) :
    (s.absorb e).done = .next { s with ref := r } := by
  rw [State.absorb_counts origin, RefUnit.regains_not (r := s.ref.ledByPulse e) rest, counted]
  exact State.done_of_ref quiet r

/-- A window that closes without losing the lock. -/
theorem State.closeWindow_still {s : State} (quiet : s.quiet) {r : RefUnit} (closes : s.ref.closed = r ∧ s.ref.loses = false) :
    exec .absorptionWindowClose s = .next { s with ref := r } := by
  change s.closeWindow.done = _
  rw [State.closeWindow_holds closes.2]
  unfold State.modRef
  rw [closes.1]
  exact State.done_of_ref quiet r

/-- Settles O15: an absorbed pulse counts at most once, and a window that is open closes by the table of R8. -/
theorem lockAccountingWithinFrames : Obligations.LockAccountingWithinFrames := by
  refine ⟨fun s inputs e quiet early => ?_, fun s quiet => ⟨fun shut => ?_, fun opened => ⟨fun origin => ?_,
    fun origin lock => ?_, fun origin lock few => ?_, fun origin lock three => ?_⟩⟩⟩
  · rw [exec_pulse_absorbed early inputs]
    refine ⟨fun origin => ?_, fun origin lock => ?_, fun origin lock none => ?_, fun origin lock one => ?_⟩
    · rw [State.absorb_eq, origin]
      exact State.done_of_ref quiet _
    · exact State.absorb_still quiet origin (.inl lock) (RefUnit.counted_locked (r := s.ref.ledByPulse e) lock).2
    · exact State.absorb_still quiet origin (.inr none) ((RefUnit.counted_free (r := s.ref.ledByPulse e) lock).2.1 none)
    · rw [State.absorb_counts origin, RefUnit.regains_of (r := s.ref.ledByPulse e) lock one,
        (RefUnit.counted_free (r := s.ref.ledByPulse e) lock).2.2 one]
      rfl
  · have closed : s.closeWindow = s := by
      unfold State.closeWindow
      rw [shut]
      rfl
    change s.closeWindow.done = _
    rw [closed]
    exact State.done_of_quiet quiet
  · exact State.closeWindow_still quiet (RefUnit.closed_pulse opened origin)
  · exact State.closeWindow_still quiet (RefUnit.closed_free opened origin lock)
  · exact State.closeWindow_still quiet (RefUnit.closed_flywheels opened origin lock few)
  · obtain ⟨closed, loses⟩ := RefUnit.closed_lost opened origin lock three
    change s.closeWindow.done = _
    rw [State.closeWindow_eq, loses, State.modRef, closed]
    rfl

end Sys2Proof.Machine
end

section
/-! PROOF. What the blocks do at a frame event: the Scene Memory, the source ports, the tally, the claims, and the inputs
of the frame's computation and scan. -/

namespace Sys2Proof.Machine

open Relation

/-! ### The state that the blocks of a frame event find -/

theorem State.owedMark_keeps (s : State) (order : List Nat) : (s.owedMark order).wall = s.wall ∧
    (s.owedMark order).access = s.access ∧ (s.owedMark order).tally.shotMap = s.tally.shotMap ∧
    (s.owedMark order).scene.program = s.scene.program ∧
    s.scene.trans.TakenTo (s.owedMark order).scene.trans := by
  cases due : s.ref.markDue with
  | none =>
    rw [State.owedMark_of_none due]
    exact ⟨rfl, rfl, rfl, rfl, .refl _⟩
  | some n =>
    rw [State.owedMark_of_some due]
    have keeps := s.markSteps_markKeeps order
    exact ⟨keeps.wall, keeps.access, (congrArg TallyUnit.shotMap keeps.tally :), keeps.program, keeps.taken⟩

/-- What a frame event's blocks find of the state before it. -/
structure State.Opens (s t : State) : Prop where
  counter : t.ref.counter = s.ref.counter + 1
  sources : t.wall.sources = s.wall.sources
  sets : t.wall.sets = s.wall.sets
  access : t.access = s.access
  shotMap : t.tally.shotMap = s.tally.shotMap
  program : t.scene.program = s.scene.program
  taken : s.scene.trans.TakenTo t.scene.trans
  routing : t.ports.routing = s.ports.routing

theorem State.openFrame_opens (s : State) (ev : FrameEvent) : s.Opens (s.openFrame ev) := by
  have same := s.openFrame_same ev
  have scan := s.finishScan_same.trans s.finishScan.levelsReady_same
  obtain ⟨wall, access, shotMap, program, taken⟩ := s.finishScan.levelsReady.owedMark_keeps ev.inputs.order
  refine ⟨s.openFrame_counter ev, ?_, ?_, ?_, ?_, ?_, ?_, s.openFrame_routing ev⟩
  · rw [same.wall, State.beforeFrame, wall, scan.sources]
  · rw [same.wall, State.beforeFrame, wall, scan.sets]
  · rw [same.access, State.beforeFrame, access, scan.access]
  · rw [same.tally, State.beforeFrame, shotMap, scan.tally]
  · rw [same.scene, State.beforeFrame, program, scan.scene]
  · rw [same.scene, State.beforeFrame, ← scan.scene]
    exact taken

/-- With no MARK owed the blocks find the show as it was. -/
theorem State.openFrame_unmarked {s : State} (due : s.ref.markDue = none) (ev : FrameEvent) :
    (s.openFrame ev).scene = s.scene ∧ (s.openFrame ev).cue = s.cue ∧ (s.openFrame ev).level = s.finishScan.levelsReady.level := by
  have same := s.openFrame_same ev
  have scan := s.finishScan_same.trans s.finishScan.levelsReady_same
  have still : s.beforeFrame ev.inputs.order = s.finishScan.levelsReady :=
    State.owedMark_of_none (by rw [scan.ref, due]) _
  exact ⟨by rw [same.scene, still, scan.scene], by rw [same.cue, still, scan.cue], by rw [same.level, still]⟩

theorem exec_frameCommand {s : State} {ev : FrameEvent} (leads : s.leads ev.cause = true) :
    exec (frameCommand ev) s = .next (s.frame ev).startNotices := by
  obtain ⟨cause, inputs⟩ := ev
  cases cause with
  | clock => rfl
  | pulse e => exact exec_pulse_leads (of_decide_eq_true leads) inputs

theorem State.frameWhen_happens {s : State} {ev : FrameEvent} {happens : State → Bool} (leads : s.leads ev.cause = true)
    (is : happens (s.openFrame ev) = true) : (s.frameWhen ev happens).done = .next (s.frame ev).startNotices := by
  unfold State.frameWhen
  rw [leads, is]
  rfl

theorem State.frameWhen_rests {s : State} {ev : FrameEvent} {happens : State → Bool} (quiet : s.quiet)
    (is : happens (s.openFrame ev) = false) : (s.frameWhen ev happens).done = .next s := by
  unfold State.frameWhen
  rw [is, Bool.and_false]
  exact State.done_of_quiet quiet

/-! ### The Scene Memory (R26, R27) -/

theorem State.frameBlocks_scene (s : State) (tally : BitVec 16) :
    (s.frameBlocks tally).scene = (s.scene.frameStep s.wall.sets).1 := by
  rw [State.frameBlocks_eq]
  simp [State.startComputation, State.startScan, State.stepClaims, State.tallySampled, State.stepSources,
    State.sceneStepped]

theorem State.frame_scene (s : State) (ev : FrameEvent) :
    (s.frame ev).scene = ((s.openFrame ev).scene.frameStep s.wall.sets).1 := by
  rw [State.frame, State.frameBlocks_scene, (s.openFrame_opens ev).sets]

/-- The Scene Memory at a frame event, by its transition context: the pending take, the last frame, the frames between. -/
theorem SceneMemory.frameStep_pending {m : SceneMemory} {n : SetNo} (pending : m.trans = .pending n)
    (sets : Vector TransitionSet 4) : m.frameStep sets =
      if (sets[n]).duration ≤ 1 then ({ m with program := m.program.other, trans := .idle }, ⟨true, none⟩)
      else ({ m with
          program := m.program.other
          trans := .running ⟨n, (sets[n]).duration, (sets[n]).curve, 1, m.program, false⟩ },
        ⟨true, some (m.program, (sets[n]).curve.weight 1 (sets[n]).duration)⟩) := by
  unfold SceneMemory.frameStep
  rw [pending]

theorem SceneMemory.frameStep_ends {m : SceneMemory} {r : Running} (running : m.trans = .running r)
    (ends : r.hurry = true ∨ r.frames ≤ r.k + 1) (sets : Vector TransitionSet 4) : m.frameStep sets =
      ({ m with trans := .idle }, ⟨true, some (r.outgoing, r.curve.weight r.frames r.frames)⟩) := by
  unfold SceneMemory.frameStep
  rw [running]
  exact if_pos (by simpa using ends)

theorem SceneMemory.frameStep_runs {m : SceneMemory} {r : Running} (running : m.trans = .running r)
    (calm : r.hurry = false) (more : r.k + 1 < r.frames) (sets : Vector TransitionSet 4) : m.frameStep sets =
      ({ m with trans := .running { r with k := r.k + 1 } },
        ⟨true, some (r.outgoing, r.curve.weight (r.k + 1) r.frames)⟩) := by
  unfold SceneMemory.frameStep
  rw [running]
  exact if_neg (by simp [calm, more])

theorem SceneMemory.frameStep_idle {m : SceneMemory} (idle : m.trans = .idle) (sets : Vector TransitionSet 4) :
    m.frameStep sets = (m, ⟨false, none⟩) := by
  unfold SceneMemory.frameStep
  rw [idle]

/-- Settles O18: the step of the Scene Memory on the context that the MARK has left. -/
theorem transitionsAtFrames : Obligations.TransitionsAtFrames := by
  intro s ev leads
  have opens := s.openFrame_opens ev
  refine ⟨fun n pending => ?_, fun n pending short => ?_, fun r running ends => ?_, fun due =>
    ⟨_, exec_frameCommand leads, fun idle => ?_, fun r running calm more => ?_⟩⟩
  · have still := opens.taken.1 n pending
    refine ⟨_, State.frameWhen_happens leads (by unfold State.swaps; rw [still]), ?_⟩
    rw [State.startNotices_scene, State.frame_scene, SceneMemory.frameStep_pending still, opens.program]
    split <;> exact ⟨rfl, rfl⟩
  · have still := opens.taken.1 n pending
    refine ⟨_, State.frameWhen_happens leads ?_, ?_⟩
    · unfold State.endsTransition
      rw [still, opens.sets]
      exact decide_eq_true short
    · rw [State.startNotices_scene, State.frame_scene, SceneMemory.frameStep_pending still, opens.program, if_pos short]
      exact ⟨rfl, rfl⟩
  · obtain ⟨x, still, done⟩ : ∃ x : Running, (s.openFrame ev).scene.trans = .running x ∧
        (x.hurry = true ∨ x.frames ≤ x.k + 1) := by
      rcases opens.taken.2 r running with same | hurried
      · exact ⟨r, same, ends⟩
      · exact ⟨_, hurried, .inl rfl⟩
    refine ⟨_, State.frameWhen_happens leads ?_, ?_⟩
    · unfold State.endsTransition
      rw [still]
      simpa using done
    · rw [State.startNotices_scene, State.frame_scene, SceneMemory.frameStep_ends still done, opens.program]
      exact ⟨rfl, rfl⟩
  · rw [State.startNotices_scene, State.frame_scene, (State.openFrame_unmarked due ev).1,
      SceneMemory.frameStep_idle idle]
  · rw [State.startNotices_scene, State.frame_scene, (State.openFrame_unmarked due ev).1,
      SceneMemory.frameStep_runs running calm more]

/-! ### The source ports (R29) -/

theorem SourcePort.step_arrived {p : SourcePort} {f : SourceFrame} (arrived : p.arrived = some f) : p.step =
    ({ p with state := .locked, holdCount := 0, held := some f, arrived := none },
      if p.state = .lost then some .back else none) := by
  unfold SourcePort.step
  rw [arrived]

theorem SourcePort.step_missing {p : SourcePort} (missing : p.arrived = none) : p.step =
    match p.state with
    | .absent => ({ p with holdCount := 0 }, none)
    | .locked => if 1 ≤ p.holdLimit then ({ p with state := .holding, holdCount := 1 }, some .hold)
        else ({ p with state := .lost, holdCount := 1 }, some .lost)
    | .holding => if p.holdCount + 1 ≤ p.holdLimit then ({ p with holdCount := p.holdCount + 1 }, none)
        else ({ p with state := .lost, holdCount := p.holdCount + 1 }, some .lost)
    | .lost => (p, none) := by
  unfold SourcePort.step
  rw [missing] <;> rfl

/-- The step of the source ports, but for its alerts. -/
def State.sourcesStepped (s : State) : State :=
  { s with wall := { s.wall with sources := mapTab (fun p : SourcePort => p.step.1) s.wall.sources } }

theorem State.stepSources_eq (s : State) : s.stepSources =
    ((s.sourcesStepped.raiseTogether (sourceAlerts s s.wall.sources .hold .sourceHold)).raiseTogether
      (sourceAlerts s s.wall.sources .lost .sourceLost)).raiseTogether (sourceAlerts s s.wall.sources .back .sourceBack) :=
  rfl

/-- What the alerts of one kind of source step leave in a port's set. -/
theorem State.sourceAlerts_told (s u : State) {which : SourceAlert} {mk : SourceNo → Frame → Alert} {k : Fin 22}
    (kind : ∀ i now, (mk i now).kind = k) {q : Port}
    (into : ∀ i now, (s.routingSet (mk i now)).getLsbD q.val = true)
    (some' : ∃ x : SourceNo, (s.wall.sources[x]).step.2 = some which) :
    ∃ x : SourceNo, (s.wall.sources[x]).step.2 = some which ∧
      (((u.raiseTogether (sourceAlerts s s.wall.sources which mk)).ports.port[q]).alerts[k]).map AlertEntry.alert =
        some (mk x s.ref.counter) := by
  have kinds : ∀ x ∈ sourceAlerts s s.wall.sources which mk, x.2.kind = k := fun x there => by
    obtain ⟨i, -, rfl⟩ := State.mem_sourceAlerts there
    exact kind i _
  obtain ⟨x, steps⟩ := some'
  have there : (s.routingSet (mk x s.ref.counter), mk x s.ref.counter) ∈
      raisedTo (sourceAlerts s s.wall.sources which mk) q :=
    List.mem_filter.2 ⟨List.mem_map.2 ⟨x, List.mem_filter.2 ⟨List.mem_finRange x, decide_eq_true steps⟩, rfl⟩, into x _⟩
  obtain ⟨y, raised, is⟩ := (u.raiseTogether_alerts _ q kinds).2 (List.ne_nil_of_mem there)
  obtain ⟨i, stepped, rfl⟩ := State.mem_sourceAlerts (List.mem_filter.1 raised).1
  exact ⟨i, stepped, by rw [is]; rfl⟩

theorem State.routingSet_sourceHold (s : State) (i : SourceNo) (now : Frame) :
    s.routingSet (.sourceHold i now) = s.ports.routing[(2 : Fin 16)] := rfl
theorem State.routingSet_sourceLost (s : State) (i : SourceNo) (now : Frame) :
    s.routingSet (.sourceLost i now) = s.ports.routing[(3 : Fin 16)] := rfl
theorem State.routingSet_sourceBack (s : State) (i : SourceNo) (now : Frame) :
    s.routingSet (.sourceBack i now) = s.ports.routing[(4 : Fin 16)] := rfl

/-- Between `s` and `t` port `q`, if routing set `r` names it, is told of a step `which` of a source of `s`. -/
def State.SourceTold (s t : State) (now : Frame) (q : Port) (which : SourceAlert) (mk : SourceNo → Frame → Alert)
    (k : Fin 22) (r : Fin 16) : Prop :=
  (s.ports.routing[r]).getLsbD q.val = true → (∃ x : SourceNo, (s.wall.sources[x]).step.2 = some which) →
    ∃ x : SourceNo, (s.wall.sources[x]).step.2 = some which ∧
      ((t.ports.port[q]).alerts[k]).map AlertEntry.alert = some (mk x now)

/-- The alerts of the source ports' step, by kind. -/
theorem State.stepSources_alerts (s : State) (q : Port) :
    s.SourceTold s.stepSources s.ref.counter q .hold .sourceHold 2 2 ∧
    s.SourceTold s.stepSources s.ref.counter q .lost .sourceLost 3 3 ∧
    s.SourceTold s.stepSources s.ref.counter q .back .sourceBack 4 4 := by
  have other {which : SourceAlert} {mk : SourceNo → Frame → Alert} {k l : Fin 22} (kind : ∀ i now, (mk i now).kind = l)
      (ne : l ≠ k) : ∀ x ∈ sourceAlerts s s.wall.sources which mk, x.2.kind ≠ k := fun x there => by
    obtain ⟨i, -, rfl⟩ := State.mem_sourceAlerts there
    exact (kind i _).symm ▸ ne
  rw [State.stepSources_eq]
  refine ⟨fun into some' => ?_, fun into some' => ?_, fun into some' => ?_⟩
  · rw [State.raiseTogether_other _ _ q (other (l := 4) (fun _ _ => rfl) (by decide)),
      State.raiseTogether_other _ _ q (other (l := 3) (fun _ _ => rfl) (by decide))]
    exact State.sourceAlerts_told s _ (which := .hold) (mk := .sourceHold) (k := 2) (fun _ _ => rfl)
      (fun i now => (congrArg (fun d : PortSet => d.getLsbD q.val) (s.routingSet_sourceHold i now)).trans into) some'
  · rw [State.raiseTogether_other _ _ q (other (l := 4) (fun _ _ => rfl) (by decide))]
    exact State.sourceAlerts_told s _ (which := .lost) (mk := .sourceLost) (k := 3) (fun _ _ => rfl)
      (fun i now => (congrArg (fun d : PortSet => d.getLsbD q.val) (s.routingSet_sourceLost i now)).trans into) some'
  · exact State.sourceAlerts_told s _ (which := .back) (mk := .sourceBack) (k := 4) (fun _ _ => rfl)
      (fun i now => (congrArg (fun d : PortSet => d.getLsbD q.val) (s.routingSet_sourceBack i now)).trans into) some'

theorem State.frameBlocks_sources (s : State) (tally : BitVec 16) :
    (s.frameBlocks tally).wall.sources = mapTab (fun p : SourcePort => p.step.1) s.wall.sources := by
  rw [State.frameBlocks_eq]
  simp [State.startComputation, State.startScan, State.stepClaims, State.tallySampled, State.stepSources,
    State.sceneStepped]

/-- After the source ports' step the blocks raise alerts of the claims alone. -/
theorem State.frameBlocks_alerts (s : State) (tally : BitVec 16) (q : Port) {k : Fin 22} (other : k ∉ [(15 : Fin 22), 16]) :
    ((s.frameBlocks tally).ports.port[q]).alerts[k] = (s.sceneStepped.stepSources.ports.port[q]).alerts[k] := by
  rw [State.frameBlocks_eq]
  exact (State.stepClaims_told _ _).others q k other

theorem State.frameBlocks_sources_at (s : State) (tally : BitVec 16) (q : SourceNo) :
    (s.frameBlocks tally).wall.sources[q] = (s.wall.sources[q]).step.1 := by
  rw [State.frameBlocks_sources]
  exact mapTab_getElem _ _ q.val q.isLt

/-- A whole frame event tells of a source's step as the ports' step inside it does. -/
theorem State.frame_sourceTold {s : State} {ev : FrameEvent} {q : Port} {which : SourceAlert}
    {mk : SourceNo → Frame → Alert} {k : Fin 22} {r : Fin 16} (other : k ∉ [(15 : Fin 22), 16])
    (told : (s.openFrame ev).sceneStepped.SourceTold (s.openFrame ev).sceneStepped.stepSources
      (s.openFrame ev).sceneStepped.ref.counter q which mk k r) :
    s.SourceTold (s.frame ev).startNotices (s.ref.counter + 1) q which mk k r := by
  have opens := s.openFrame_opens ev
  have routing : (s.openFrame ev).sceneStepped.ports.routing = s.ports.routing := opens.routing
  have wall : (s.openFrame ev).sceneStepped.wall.sources = s.wall.sources := opens.sources
  have counter : (s.openFrame ev).sceneStepped.ref.counter = s.ref.counter + 1 := opens.counter
  unfold State.SourceTold at told ⊢
  rw [routing, wall, counter] at told
  rw [State.startNotices_alerts, State.frame, State.frameBlocks_alerts _ _ q other]
  exact told

theorem State.frame_sources (s : State) (ev : FrameEvent) :
    (∀ q : SourceNo, (s.frame ev).startNotices.wall.sources[q] = (s.wall.sources[q]).step.1) ∧ ∀ q : Port,
      s.SourceTold (s.frame ev).startNotices (s.ref.counter + 1) q .hold .sourceHold 2 2 ∧
      s.SourceTold (s.frame ev).startNotices (s.ref.counter + 1) q .lost .sourceLost 3 3 ∧
      s.SourceTold (s.frame ev).startNotices (s.ref.counter + 1) q .back .sourceBack 4 4 := by
  refine ⟨fun q => ?_, fun q => ?_⟩
  · rw [State.startNotices_wall, State.frame, State.frameBlocks_sources_at, (s.openFrame_opens ev).sources]
  · obtain ⟨hold, lost, back⟩ := (s.openFrame ev).sceneStepped.stepSources_alerts q
    exact ⟨State.frame_sourceTold (by decide) hold, State.frame_sourceTold (by decide) lost,
      State.frame_sourceTold (by decide) back⟩

theorem SourcePort.step_lost {p : SourcePort} (lost : p.step.2 = some .lost) : p.step.1.state = .lost := by
  cases arrived : p.arrived with
  | some f =>
    rw [SourcePort.step_arrived arrived] at lost
    dsimp only at lost
    split at lost <;> cases lost
  | none =>
    rw [SourcePort.step_missing arrived] at lost ⊢
    split at lost
    · cases lost
    · split at lost
      · cases lost
      · simp [*]
    · split at lost
      · cases lost
      · simp [*]
    · cases lost

/-- Settles O19: the table of a port's step, and the three kinds of alert of a frame event's steps. -/
theorem sourcePortsStep : Obligations.SourcePortsStep := by
  refine ⟨fun p f arrived => ?_, fun p missing => ?_, fun s ev leads => ?_⟩
  · rw [SourcePort.step_arrived arrived]
    exact ⟨rfl, rfl⟩
  · rw [SourcePort.step_missing missing]
    refine ⟨fun is => ?_, fun is one => ?_, fun is zero => ?_, fun is more => ?_, fun is past => ?_, fun is => ?_⟩
    · rw [is]
    · rw [is]
      exact if_pos one
    · rw [is]
      exact if_neg (by omega)
    · rw [is]
      exact if_pos more
    · rw [is]
      exact if_neg (by omega)
    · rw [is]
  · obtain ⟨sources, alerts⟩ := s.frame_sources ev
    have found : (s.openFrame ev).wall.sources = s.wall.sources := (s.openFrame_opens ev).sources
    refine ⟨⟨_, exec_frameCommand leads, sources, alerts⟩, fun src => ⟨fun lost =>
      ⟨_, State.frameWhen_happens leads ?_, ?_, sources, alerts⟩, fun quiet rests => State.frameWhen_rests quiet ?_⟩⟩
    · rw [found]
      exact decide_eq_true lost
    · rw [sources]
      exact SourcePort.step_lost lost
    · rw [found]
      exact decide_eq_false rests

/-! ### The inputs of the frame's computation and scan (R40, R157) -/

theorem activeUnion_getLsbD {n : Nat} (lines : BitVec 16) (shotMap : Vector ShotEntry 16) (f : ShotEntry → BitVec n)
    (k : Nat) : (activeUnion lines shotMap f).getLsbD k = true ↔
      ∃ i : TallyNo, lines.getLsbD i.val = true ∧ (f shotMap[i]).getLsbD k = true := by
  unfold activeUnion
  rw [foldl_or_getLsbD]
  simp

/-- The state at a frame event that the computation and the scan read. -/
def State.framed (s : State) (tally : BitVec 16) : State :=
  (s.sceneStepped.stepSources.tallySampled tally).stepClaims s.nextView

theorem State.frameBlocks_framed (s : State) (tally : BitVec 16) :
    s.frameBlocks tally = ((s.framed tally).startScan s.nextView).startComputation := s.frameBlocks_eq tally

theorem State.framed_tally (s : State) (tally : BitVec 16) : (s.framed tally).tally = s.tally.sample tally := by
  simp [State.framed, State.stepClaims, State.tallySampled, State.stepSources, State.sceneStepped]

theorem State.framed_ref (s : State) (tally : BitVec 16) : (s.framed tally).ref = s.ref := by
  simp [State.framed, State.stepClaims, State.tallySampled, State.stepSources, State.sceneStepped]

theorem State.framed_scene (s : State) (tally : BitVec 16) : (s.framed tally).scene = (s.scene.frameStep s.wall.sets).1 := by
  simp [State.framed, State.stepClaims, State.tallySampled, State.stepSources, State.sceneStepped]

theorem Curve.weight_full (c : Curve) {n : Nat} (some : 1 ≤ n) : c.weight n n = 65536 := by
  have full : n * 65536 / n = 65536 := by rw [Nat.mul_comm]; exact Nat.mul_div_cancel _ some
  unfold Curve.weight
  rw [full]
  cases c <;> rfl

/-- The scan that a frame event starts. -/
def State.scanRecord (s : State) (view : FrameView) : ScanRecord :=
  { frame := s.ref.counter
    sources := s.wall.sources
    new := (s.scene.bank s.scene.program).picture s.takeover.overrides
    mix := view.mix.map fun m => ((s.scene.bank m.1).picture s.takeover.overrides, m.2)
    safetyWall := if s.takeover.inForce then some s.takeover.safetyWall else none
    links := s.wall.links
    measured := !view.saw }

/-- The computation that a frame event starts. -/
def State.computationOf (s : State) : Computation :=
  { frame := s.ref.counter
    channels := (s.scene.bank s.scene.program).channels
    overrides := s.takeover.overrides
    safety := s.takeover.inForce
    safetyFade := s.takeover.safetyFade
    releaseFade := s.level.releaseFade
    masters := s.level.masters
    patch := s.level.patch
    lum := s.wall.lum }

theorem State.startScan_eq (s : State) (view : FrameView) :
    s.startScan view = { s with wall := { s.wall with scan := some (s.scanRecord view) } } := rfl

theorem State.startComputation_eq (s : State) :
    s.startComputation = { s with level := { s.level with comp := some s.computationOf } } := rfl

/-- Settles O20: both records are taken from the one state that the other blocks have left. -/
theorem frameTakesItsInputs : Obligations.FrameTakesItsInputs := by
  intro s ev leads
  have opens := s.openFrame_opens ev
  refine ⟨_, exec_frameCommand leads, ?_⟩
  rw [State.frame, State.frameBlocks_framed]
  have tally := (s.openFrame ev).framed_tally ev.inputs.tally
  have counter : ((s.openFrame ev).framed ev.inputs.tally).ref.counter = s.ref.counter + 1 := by
    rw [State.framed_ref, opens.counter]
  have shotMap : (s.openFrame ev).tally.shotMap = s.tally.shotMap := opens.shotMap
  have scene := (s.openFrame ev).framed_scene ev.inputs.tally
  have view : (s.openFrame ev).nextView = ((s.openFrame ev).scene.frameStep s.wall.sets).2 := by
    rw [State.nextView, opens.sets]
  generalize (s.openFrame ev).framed ev.inputs.tally = u at *
  generalize (s.openFrame ev).nextView = v at *
  refine ⟨⟨?_, ?_, fun w => ?_, fun g => ?_⟩, ⟨_, rfl, counter, rfl, rfl, rfl, rfl, rfl, rfl, rfl, rfl⟩,
    ⟨_, rfl, counter, rfl, rfl, rfl, rfl, fun due => ?_⟩⟩
  · exact congrArg TallyUnit.lines tally
  · exact (congrArg TallyUnit.shotMap tally).trans shotMap
  · rw [← shotMap]
    exact (congrArg (fun x : TallyUnit => x.inShotWindows.getLsbD w.val = true) tally).to_iff.trans
      (activeUnion_getLsbD _ _ _ _)
  · rw [← shotMap]
    exact (congrArg (fun x : TallyUnit => x.inShotGroups.getLsbD g.val = true) tally).to_iff.trans
      (activeUnion_getLsbD _ _ _ _)
  · rw [(State.openFrame_unmarked due ev).1] at view
    dsimp only
    refine ⟨fun idle => ?_, fun n pending => ⟨fun short => ?_, fun long => ?_⟩,
      fun x running => ⟨fun calm more => ?_, fun ends some' => ?_⟩⟩
    · rw [SceneMemory.frameStep_idle idle] at view
      rw [view]
      exact ⟨rfl, rfl⟩
    · rw [SceneMemory.frameStep_pending pending, if_pos short] at view
      rw [view]
      exact ⟨rfl, rfl⟩
    · rw [SceneMemory.frameStep_pending pending, if_neg (by omega)] at view
      rw [view]
      exact ⟨rfl, rfl⟩
    · rw [SceneMemory.frameStep_runs running calm more] at view
      rw [view]
      exact ⟨rfl, rfl⟩
    · rw [SceneMemory.frameStep_ends running ends, Curve.weight_full _ some'] at view
      rw [view]
      exact ⟨rfl, rfl⟩

/-! ### The claims (R151, R152) -/

theorem State.claimStep_expires {s : State} {view : FrameView} {c : Claim} {w : Contest} (contest : c.contest = some w)
    (asks : c.autoYield = false) (past : w.expiry.isPast s.ref.counter = true) : s.claimStep view c = .expires w := by
  unfold State.claimStep
  rw [contest, asks]
  exact if_pos past

theorem State.claimStep_moves {s : State} {view : FrameView} {c : Claim} {w : Contest} (contest : c.contest = some w)
    (yields : c.autoYield = true) (free : s.freeToMove view c.range = true) : s.claimStep view c = .moves w := by
  unfold State.claimStep
  rw [contest, yields]
  exact if_pos free

theorem State.entryStep_of {s : State} {view : FrameView} {id : ClaimId} {c : Claim}
    (used : s.access.claims[id] = some c) : s.entryStep view id = s.claimStep view c := by
  unfold State.entryStep
  rw [used]

theorem State.freeToMove_congr {s t : State} (contexts : t.level.contexts = s.level.contexts) (cue : t.cue = s.cue)
    (view : FrameView) (r : ClaimRange) : t.freeToMove view r = s.freeToMove view r := by
  unfold State.freeToMove
  rw [contexts, cue]

/-- The state at a frame event that the claims step in. -/
def State.beforeClaims (s : State) (tally : BitVec 16) : State := s.sceneStepped.stepSources.tallySampled tally

theorem State.beforeClaims_same (s : State) (tally : BitVec 16) : (s.beforeClaims tally).ref = s.ref ∧
    (s.beforeClaims tally).access = s.access ∧ (s.beforeClaims tally).level = s.level ∧
    (s.beforeClaims tally).cue = s.cue := by
  simp [State.beforeClaims, State.tallySampled, State.stepSources, State.sceneStepped]

theorem State.frameBlocks_access (s : State) (tally : BitVec 16) (id : ClaimId) : (s.frameBlocks tally).access.claims[id] =
    (s.access.claims[id]).map fun c : Claim => c.after ((s.beforeClaims tally).claimStep s.nextView c) := by
  have claims : (s.frameBlocks tally).access.claims = tab fun id =>
      ((s.beforeClaims tally).access.claims[id]).map fun c : Claim =>
        c.after ((s.beforeClaims tally).claimStep s.nextView c) := by
    rw [State.frameBlocks_eq]
    simp [State.startComputation, State.startScan, State.stepClaims, State.beforeClaims]
  rw [claims, (s.beforeClaims_same tally).2.1]
  exact tab_getElem _ _ id.isLt

/-- A claim's step of a frame event tells the port that waited. -/
theorem State.stepClaims_granted {s : State} {view : FrameView} {id : ClaimId} {c : Claim} {w : Contest}
    (used : s.access.claims[id] = some c) (moves : s.claimStep view c = .moves w) :
    (((s.stepClaims view).ports.port[w.waiting]).alerts[(15 : Fin 22)]).isSome = true := by
  have step := (State.entryStep_of (view := view) used).trans moves
  have there : (onlyPort w.waiting, .handoverGranted id c.owner .auto s.ref.counter) ∈
      raisedTo (s.autoGrants view) w.waiting := by
    refine List.mem_filter.2 ⟨List.mem_filterMap.2 ⟨id, List.mem_finRange id, ?_⟩, (onlyPort_iff _ _).2 rfl⟩
    rw [used, step]
  have timeout : (16 : Fin 22) ≠ 15 := by decide
  unfold State.stepClaims
  dsimp only
  rw [State.raiseTogether_other _ _ _ fun x there => by obtain ⟨_, _, -, rfl⟩ := State.mem_expiries there; exact timeout]
  obtain ⟨e, -, is⟩ := (State.raiseTogether_alerts _ _ w.waiting fun x there => by
    obtain ⟨_, _, _, -, -, rfl⟩ := State.mem_autoGrants there; exact rfl).2 (List.ne_nil_of_mem there)
  exact Option.isSome_of_eq_some is

theorem State.stepClaims_expired {s : State} {view : FrameView} {id : ClaimId} {c : Claim} {w : Contest}
    (used : s.access.claims[id] = some c) (expires : s.claimStep view c = .expires w) :
    (((s.stepClaims view).ports.port[w.waiting]).alerts[(16 : Fin 22)]).isSome = true := by
  have step := (State.entryStep_of (view := view) used).trans expires
  have there : (onlyPort w.waiting, .handoverTimeout id .expired s.ref.counter) ∈
      raisedTo (s.expiries view) w.waiting := by
    refine List.mem_filter.2 ⟨List.mem_filterMap.2 ⟨id, List.mem_finRange id, ?_⟩, (onlyPort_iff _ _).2 rfl⟩
    rw [step]
  unfold State.stepClaims
  dsimp only
  obtain ⟨e, -, is⟩ := (State.raiseTogether_alerts _ _ w.waiting fun x there => by
    obtain ⟨_, _, -, rfl⟩ := State.mem_expiries there; exact rfl).2 (List.ne_nil_of_mem there)
  exact Option.isSome_of_eq_some is

theorem State.frameBlocks_claimAlerts (s : State) (tally : BitVec 16) (q : Port) :
    ((s.frameBlocks tally).ports.port[q]).alerts = (((s.beforeClaims tally).stepClaims s.nextView).ports.port[q]).alerts := by
  rw [State.frameBlocks_eq]
  rfl

/-- Settles O21: the claim's own step, in the state in which the claims step. -/
theorem handoversEndAtFrames : Obligations.HandoversEndAtFrames := by
  intro s ev id c w leads used contest
  have opens := s.openFrame_opens ev
  obtain ⟨ref, access, level, cue⟩ := (s.openFrame ev).beforeClaims_same ev.inputs.tally
  have usedOpen : (s.openFrame ev).access.claims[id] = some c := by rw [opens.access, used]
  have usedBefore : ((s.openFrame ev).beforeClaims ev.inputs.tally).access.claims[id] = some c := by rw [access, usedOpen]
  refine ⟨fun asks past => ?_, fun yields due none free => ?_⟩
  · have expires {u : State} (counter : u.ref.counter = s.ref.counter + 1) (view : FrameView) :
        u.claimStep view c = .expires w := State.claimStep_expires contest asks (counter ▸ past)
    refine ⟨_, State.frameWhen_happens leads ?_, ?_, ?_⟩
    · rw [State.entryStep_of usedOpen, expires opens.counter]
    · rw [State.startNotices_access, State.frame, State.frameBlocks_access, usedOpen, Option.map_some,
        expires (by rw [ref, opens.counter])]
      rfl
    · refine (congrArg (fun a : Vector (Option AlertEntry) 22 => (a[(16 : Fin 22)]).isSome)
        ((State.startNotices_alerts _ _).trans (State.frameBlocks_claimAlerts _ _ _))).trans ?_
      exact State.stepClaims_expired usedBefore (expires (by rw [ref, opens.counter]) _)
  · obtain ⟨scene, cues, levels⟩ := State.openFrame_unmarked due ev
    have calm : (s.openFrame ev).level = s.level := by
      rw [levels, State.levelsReady_of_none (by rw [s.finishScan_level.1, none]), s.finishScan_level.1]
    have view : (s.openFrame ev).nextView = s.nextView := by rw [State.nextView, scene, opens.sets]; rfl
    have moves {u : State} (contexts : u.level = s.level) (cue : u.cue = s.cue) : u.claimStep s.nextView c = .moves w :=
      State.claimStep_moves contest yields ((State.freeToMove_congr (by rw [contexts]) cue _ _).trans free)
    have moved := moves (level.trans calm) (cue.trans cues)
    refine ⟨_, State.frameWhen_happens leads ?_, ?_, ?_⟩
    · rw [State.entryStep_of usedOpen, view, moves calm cues]
    · rw [State.startNotices_access, State.frame, State.frameBlocks_access, usedOpen, Option.map_some, view, moved]
      rfl
    · refine (congrArg (fun a : Vector (Option AlertEntry) 22 => (a[(15 : Fin 22)]).isSome)
        ((State.startNotices_alerts _ _).trans (State.frameBlocks_claimAlerts _ _ _))).trans ?_
      rw [view]
      exact State.stepClaims_granted usedBefore moved

end Sys2Proof.Machine
end

section
/-! PROOF. The values of a frame: the pixels of the canvas and the measured luminances, the fades, the output stages and
the slots. -/

namespace Sys2Proof.Machine

/-! ### The Wall Mapper (R29, R41, R44, R47) -/

theorem exec_sourceFrameComplete (p : SourceNo) (f : SourceFrame) (s : State) : exec (.sourceFrameComplete p f) s =
    if rasterFits f && rasterWhole f then
      .next { s with wall := { s.wall with
        sources := updAt s.wall.sources p fun q => { q with arrived := some f } } }
    else .next s := rfl

theorem State.finishScan_of {s : State} {r : ScanRecord} (scan : s.wall.scan = some r) : s.finishScan =
    if r.measured then
      { s with wall := { s.wall with
        lum := tab fun i => filterLum s.wall.lum[i] (r.lumaSum i) (r.pixelCount i)
        count := tab fun i => r.pixelCount i
        scan := none } }
    else { s with wall := { s.wall with scan := none } } := by
  unfold State.finishScan
  rw [scan]

/-- Settles O22: the raster decides an arrival, and the measured flag the filter. -/
theorem wallInputsAndMeasurement : Obligations.WallInputsAndMeasurement := by
  refine ⟨fun s p f => ⟨fun w1 w2 h1 h2 whole => ?_, fun out => ?_, rfl⟩, fun s r scan =>
    ⟨fun measured => ⟨s.finishScan, rfl, fun i => ?_, ?_⟩, fun unmeasured => ?_⟩⟩
  · rw [exec_sourceFrameComplete, if_pos]
    exact Bool.and_eq_true_iff.2 ⟨decide_eq_true ⟨w1, w2, h1, h2⟩, decide_eq_true whole⟩
  · rw [exec_sourceFrameComplete, if_neg]
    intro fits
    obtain ⟨w1, w2, h1, h2⟩ := of_decide_eq_true (Bool.and_eq_true_iff.1 fits).1
    omega
  · have count : s.finishScan.wall.count[i] = r.pixelCount i := by
      rw [State.finishScan_of scan, if_pos measured]
      exact tab_getElem _ _ i.isLt
    have lum : s.finishScan.wall.lum[i] = filterLum s.wall.lum[i] (r.lumaSum i) (r.pixelCount i) := by
      rw [State.finishScan_of scan, if_pos measured]
      exact tab_getElem _ _ i.isLt
    refine ⟨count, fun none => ?_, fun some => ?_⟩
    · rw [lum]
      exact if_pos none
    · rw [lum]
      exact if_neg some
  · rw [State.finishScan_of scan, if_pos measured]
  · change Host.Outcome.next s.finishScan = _
    rw [State.finishScan_of scan, unmeasured]
    rfl

theorem Picture.covering_eq (p : Picture) (x y : Nat) : p.covering x y = (List.finRange 32).foldl
    (better (fun i => (p.windows[i]).candidate x y) fun i => (p.windows[i]).layer) none := by
  unfold Picture.covering
  congr 1
  funext best i
  cases best <;> rfl

/-- A weighted mean of two components stays between them. -/
theorem mixComponent_between (old new w : Nat) (le : w ≤ 65536) :
    min old new ≤ mixComponent w old new ∧ mixComponent w old new ≤ max old new := by
  have whole (n : Nat) : n * (65536 - w) + n * w = n * 65536 := by rw [← Nat.mul_add, Nat.sub_add_cancel le]
  have low := Nat.add_le_add (Nat.mul_le_mul_right (65536 - w) (Nat.min_le_left old new))
    (Nat.mul_le_mul_right w (Nat.min_le_right old new))
  have high := Nat.add_le_add (Nat.mul_le_mul_right (65536 - w) (Nat.le_max_left old new))
    (Nat.mul_le_mul_right w (Nat.le_max_right old new))
  rw [whole] at low high
  unfold mixComponent
  omega

/-- Settles O23: the covering window is the choice of highest layer and lowest number, and a dissolve a weighted mean. -/
theorem canvasPixels : Obligations.CanvasPixels := by
  refine ⟨fun p x y => ?_, fun old new w le => ⟨?_, ?_, mixComponent_between old new w le⟩⟩
  · obtain ⟨chosen, absent⟩ := foldl_better (fun i => (p.windows[i]).candidate x y) (fun i => (p.windows[i]).layer)
      (List.finRange 32) (List.pairwise_lt_finRange 32)
    rw [← Picture.covering_eq] at chosen absent
    exact ⟨fun i is => ⟨(chosen i is).2.1, fun j => (chosen i is).2.2 j (List.mem_finRange j)⟩,
      fun none j => absent none j (List.mem_finRange j)⟩
  · unfold mixComponent
    omega
  · unfold mixComponent
    omega

/-! ### Fades (R57, R58) -/

theorem softWeight_le {p : Nat} (le : p ≤ 65536) : p * p * (196608 - 2 * p) / 4294967296 ≤ 65536 := by
  obtain ⟨q, whole⟩ := Nat.exists_eq_add_of_le le
  have rest : 196608 - 2 * p = p + 3 * q := by omega
  refine Nat.div_le_of_le_mul ?_
  rw [rest]
  calc p * p * (p + 3 * q) ≤ p * p * (p + 3 * q) + (3 * p * q * q + q * q * q) := Nat.le_add_right _ _
    _ = (p + q) * (p + q) * (p + q) := by ring
    _ = 4294967296 * 65536 := by rw [← whole]

theorem Curve.weight_le (c : Curve) {k n : Nat} (le : k ≤ n) : c.weight k n ≤ 65536 := by
  have progress : k * 65536 / n ≤ 65536 := Nat.div_le_of_le_mul (Nat.mul_le_mul_right _ le)
  cases c with
  | linear => exact progress
  | soft => exact softWeight_le progress

/-- The distance of a fade's base from its start at weight `w` (R57). -/
def fadeDistance (start target w : Nat) : Int := (((target : Int) - start) * w + 32768) / 65536

/-- At a weight of at most one whole the distance does not pass the target. -/
theorem fadeDistance_between (start target : Nat) {w : Nat} (le : w ≤ 65536) :
    min (0 : Int) (target - start) ≤ fadeDistance start target w ∧
      fadeDistance start target w ≤ max (0 : Int) (target - start) := by
  unfold fadeDistance
  generalize (target : Int) - start = d
  rcases le_total 0 d with up | down
  · have low : 0 ≤ d * (w : Int) := Int.mul_nonneg up (Int.natCast_nonneg w)
    have high : d * (w : Int) ≤ d * 65536 := Int.mul_le_mul_of_nonneg_left (by exact_mod_cast le) up
    omega
  · have low : d * (65536 : Int) ≤ d * w := Int.mul_le_mul_of_nonpos_left down (by exact_mod_cast le)
    have high : d * (w : Int) ≤ 0 := Int.mul_nonpos_of_nonpos_of_nonneg down (Int.natCast_nonneg w)
    omega

theorem fadeBase_zero (start target k : Nat) (curve : Curve) : fadeBase start target 0 k curve = target := rfl

theorem fadeBase_some {n : Nat} (some : n ≠ 0) (start target k : Nat) (curve : Curve) :
    fadeBase start target n k curve = ((start : Int) + fadeDistance start target (curve.weight k n)).toNat := by
  unfold fadeBase
  exact if_neg some

theorem fadeBase_eq {start target n k : Nat} (curve : Curve) (some : n ≠ 0) (le : k ≤ n) :
    (fadeBase start target n k curve : Int) = start + fadeDistance start target (curve.weight k n) := by
  have between := fadeDistance_between start target (curve.weight_le le)
  rw [fadeBase_some some]
  omega

theorem fadeDistance_full (start target : Nat) : fadeDistance start target 65536 = (target : Int) - start := by
  unfold fadeDistance
  omega

/-- A fade's base stays between start and target, ends at the target, and is the rounded weight of the way (R57). -/
theorem fadeBase_laws (start target n k : Nat) (curve : Curve) (le : k ≤ n) :
    min start target ≤ fadeBase start target n k curve ∧ fadeBase start target n k curve ≤ max start target ∧
    fadeBase start target n n curve = target ∧
    ∀ p w : Nat, n ≠ 0 → p = k * 65536 / n → (curve = .linear → w = p) →
      (curve = .soft → w = p ^ 2 * (196608 - 2 * p) / 2 ^ 32) →
      ∃ d : Int, (fadeBase start target n k curve : Int) = start + d ∧
        d * 65536 ≤ ((target : Int) - start) * w + 32768 ∧ ((target : Int) - start) * w + 32768 < d * 65536 + 65536 := by
  by_cases none : n = 0
  · subst none
    rw [fadeBase_zero, fadeBase_zero]
    exact ⟨Nat.min_le_right _ _, Nat.le_max_right _ _, rfl, fun _ _ some => absurd rfl some⟩
  · have between := fadeDistance_between start target (curve.weight_le le)
    have eq := fadeBase_eq (start := start) (target := target) curve none le
    refine ⟨by omega, by omega, ?_, fun p w _ progress linear soft => ⟨_, eq, ?_⟩⟩
    · have full := fadeBase_eq (start := start) (target := target) curve none (Nat.le_refl n)
      rw [curve.weight_full (Nat.pos_of_ne_zero none), fadeDistance_full] at full
      omega
    · have weight : curve.weight k n = w := by
        cases curve with
        | linear => rw [linear rfl, progress]; rfl
        | soft => rw [soft rfl, progress, Nat.pow_two]; rfl
      rw [weight]
      unfold fadeDistance
      omega

/-! ### Overrides and targets (R57, R121) -/

theorem overrideAt_of_mem {table : List Override} {e : Override} (there : e ∈ table)
    (apart : table.Pairwise Override.apart) : overrideAt table e.item.key e.level = some e := by
  unfold overrideAt
  induction table with
  | nil => cases there
  | cons x table ih =>
    obtain ⟨first, rest⟩ := List.pairwise_cons.1 apart
    rcases List.mem_cons.1 there with rfl | later
    · exact List.find?_cons_of_pos (by simp)
    · refine (List.find?_cons_of_neg ?_).trans (ih later rest)
      intro same
      obtain ⟨level, key⟩ := Bool.and_eq_true_iff.1 same
      exact first e later ⟨beq_iff_eq.1 level, of_decide_eq_true key⟩

theorem overrideAt_none {table : List Override} {key : OverrideKey} {l : Nat}
    (absent : ∀ x ∈ table, x.item.key = key → x.level ≠ l) : overrideAt table key l = none := by
  refine List.find?_eq_none.2 fun x there same => ?_
  obtain ⟨level, is⟩ := Bool.and_eq_true_iff.1 same
  exact absent x there (of_decide_eq_true is) (beq_iff_eq.1 level)

/-- The override in force for a key is the one of the highest level (R121). -/
theorem overrideInForce_highest {table : List Override} {e : Override} {key : OverrideKey} (there : e ∈ table)
    (apart : table.Pairwise Override.apart) (takeover : ∀ x ∈ table, isTakeover x.level = true)
    (is : e.item.key = key) (highest : ∀ x ∈ table, x.item.key = key → x.level ≤ e.level) :
    overrideInForce table key = some e := by
  have at' := overrideAt_of_mem there apart
  rw [is] at at'
  have above {l : Nat} (lt : e.level < l) : overrideAt table key l = none :=
    overrideAt_none fun x within' same level => absurd (highest x within' same) (by omega)
  have range := of_decide_eq_true (takeover e there)
  unfold overrideInForce
  obtain seven | six | five : e.level = 7 ∨ e.level = 6 ∨ e.level = 5 := by omega
  · rw [seven] at at'
    rw [at']
    rfl
  · rw [six] at at'
    rw [above (l := 7) (by omega), at']
    rfl
  · rw [five] at at'
    rw [above (l := 7) (by omega), above (l := 6) (by omega), at']
    rfl

theorem overrideInForce_none {table : List Override} {key : OverrideKey} (absent : ∀ x ∈ table, x.item.key ≠ key) :
    overrideInForce table key = none := by
  have at' (l : Nat) : overrideAt table key l = none := overrideAt_none fun x there is => absurd is (absent x there)
  unfold overrideInForce
  rw [at', at', at']
  rfl

section
variable {c : Computation} {n : ChannelNo} {e : Override} {v d : Nat}

theorem Computation.target_safety (safety : c.safety = true) (level : (c.patch[n]).safety = some v) :
    c.target n = (v, .safety) := by
  unfold Computation.target
  rw [safety, level]

theorem Computation.target_rest (rest : c.safety = false ∨ (c.patch[n]).safety = none) : c.target n =
    match overrideInForce c.overrides (.channel n) with
    | some ⟨l, .channel _ v _, _⟩ => (v, .override l)
    | _ => ((c.channels[n]).level, .bank) := by
  unfold Computation.target
  split
  · rename_i safety level
    rcases rest with off | none
    · rw [off] at safety; cases safety
    · rw [none] at level; cases level
  · rfl

theorem Computation.target_override (rest : c.safety = false ∨ (c.patch[n]).safety = none)
    (inForce : overrideInForce c.overrides (.channel n) = some e) (item : e.item = .channel n v d) :
    c.target n = (v, .override e.level) := by
  obtain ⟨l, i, o⟩ := e
  dsimp only at item
  subst item
  rw [Computation.target_rest rest, inForce]

theorem Computation.entryFade_of (inForce : overrideInForce c.overrides (.channel n) = some e)
    (item : e.item = .channel n v d) : c.entryFade n = d := by
  obtain ⟨l, i, o⟩ := e
  dsimp only at item
  subst item
  unfold Computation.entryFade
  rw [inForce]

end

/-! ### The restart of a fade (R58) -/

theorem Computation.restartFade_banks (c : Computation) (n : ChannelNo) :
    c.restartFade n .bank .bank = ((c.channels[n]).fade, (c.channels[n]).curve) := rfl

/-- Every change but one between bank levels is linear. -/
theorem Computation.restartFade_curve (c : Computation) (n : ChannelNo) {before now : LevelSource}
    (some : now ≠ .bank ∨ before ≠ .bank) : (c.restartFade n before now).2 = .linear := by
  unfold Computation.restartFade
  split
  · rfl
  · rfl
  · rcases some with other | other <;> exact absurd rfl other
  · rfl
  · rfl
  · rfl

theorem Computation.restartFade_safety (c : Computation) (n : ChannelNo) {before now : LevelSource}
    (safety : now = .safety ∨ before = .safety) : (c.restartFade n before now).1 = c.safetyFade := by
  rcases safety with rfl | rfl
  · cases before <;> rfl
  · rfl

theorem Computation.restartFade_released (c : Computation) (n : ChannelNo) {l : Nat} {now : LevelSource}
    (below : now = .bank ∨ ∃ m, now = .override m ∧ m < l) : (c.restartFade n (.override l) now).1 = c.releaseFade := by
  rcases below with rfl | ⟨m, rfl, lt⟩
  · rfl
  · exact if_neg (Nat.not_le.2 lt)

theorem Computation.restartFade_entered (c : Computation) (n : ChannelNo) {l : Nat} {before : LevelSource}
    (below : before = .bank ∨ ∃ m, m ≤ l ∧ before = .override m) :
    (c.restartFade n before (.override l)).1 = c.entryFade n := by
  rcases below with rfl | ⟨m, le, rfl⟩
  · rfl
  · exact if_pos le

theorem Computation.fade_base (c : Computation) (n : ChannelNo) (x : FadeContext) :
    (c.fade n x).base = fadeBase (c.fade n x).start (c.fade n x).target (c.fade n x).frames (c.fade n x).k
      (c.fade n x).curve := rfl

/-- A fade whose target and source stay goes on. -/
theorem Computation.fade_goes {c : Computation} {n : ChannelNo} {x : FadeContext} (target : x.target = (c.target n).1)
    (source : x.source = (c.target n).2) : c.fade n x =
      { x with k := if x.k < x.frames then x.k + 1 else x.k, base := (c.fade n x).base } := by
  unfold Computation.fade
  dsimp only
  rw [if_pos ⟨target, source⟩]

/-- A fade whose target or source changes starts again from its base. -/
theorem Computation.fade_restarts {c : Computation} {n : ChannelNo} {x : FadeContext}
    (changed : x.target ≠ (c.target n).1 ∨ x.source ≠ (c.target n).2) :
    (c.fade n x).start = x.base ∧ (c.fade n x).target = (c.target n).1 ∧ (c.fade n x).source = (c.target n).2 ∧
    (c.fade n x).k = min 1 (c.fade n x).frames ∧
    ((c.fade n x).frames, (c.fade n x).curve) = c.restartFade n x.source (c.target n).2 := by
  have other : ¬ (x.target = (c.target n).1 ∧ x.source = (c.target n).2) := fun same =>
    changed.elim (fun h => h same.1) fun h => h same.2
  unfold Computation.fade
  dsimp only
  rw [if_neg other]
  refine ⟨rfl, rfl, rfl, ?_, rfl⟩
  dsimp only
  split <;> omega

/-! ### The output stages (R59 to R63) -/

theorem clampInt_eq (x : Int) : clampInt 0 65535 x = max 0 (min 65535 x) := by
  unfold clampInt
  split
  · omega
  · split <;> omega

theorem sumLevel_eq {base v : Nat} {f : Int} (is : (v : Int) = max 0 (min 65535 (base + f))) : sumLevel base f = v := by
  unfold sumLevel
  rw [clampInt_eq]
  omega

theorem followTerm_zero {p : PatchRec} {source : LevelSource} (lum : Vector Nat 32)
    (none : source = .safety ∨ p.follow = none) : followTerm p source lum = 0 := by
  unfold followTerm
  rcases none with rfl | none
  · rfl
  · rw [none]
    cases source <;> rfl

theorem followTerm_of {p : PatchRec} {source : LevelSource} {w : WindowNo} (lum : Vector Nat 32)
    (driven : source ≠ .safety) (follow : p.follow = some w) :
    followTerm p source lum = p.gain * ((lum[w] : Int) - p.reference) / 16 := by
  unfold followTerm
  rw [follow]
  cases source with
  | safety => exact absurd rfl driven
  | bank => rfl
  | override l => rfl

theorem mastered_driven (v m : Nat) {source : LevelSource} (driven : source ≠ .safety) :
    mastered v m source = (v * m + 128) / 256 := by
  cases source with
  | safety => exact absurd rfl driven
  | bank => rfl
  | override l => rfl

/-- The stages from a channel's base to its output (R59 to R63). -/
theorem Computation.output_laws (c : Computation) (n : ChannelNo) (x : FadeContext) (f : Int) (v v2 v3 : Nat)
    (none : x.source = .safety ∨ (c.patch[n]).follow = none → f = 0)
    (follows : ∀ w : WindowNo, x.source ≠ .safety → (c.patch[n]).follow = some w →
      f * 16 ≤ (c.patch[n]).gain * ((c.lum[w] : Int) - (c.patch[n]).reference) ∧
        (c.patch[n]).gain * ((c.lum[w] : Int) - (c.patch[n]).reference) < f * 16 + 16)
    (sum : (v : Int) = max 0 (min 65535 (x.base + f))) (safety : x.source = .safety → v2 = v)
    (driven : x.source ≠ .safety → v2 = (v * c.masters[(c.patch[n]).group] + 128) / 256)
    (limited : v3 = min v2 (c.patch[n]).limit) :
    ((c.output n x).saturated = true ↔ (x.base : Int) + f < 0 ∨ 65535 < (x.base : Int) + f) ∧
    ((c.patch[n]).curve = .linear → (c.output n x).out = v3) ∧
    ((c.patch[n]).curve = .square → (c.output n x).out = (v3 ^ 2 + 32767) / 65535) := by
  have term : followTerm c.patch[n] x.source c.lum = f := by
    by_cases rests : x.source = .safety ∨ (c.patch[n]).follow = Option.none
    · rw [followTerm_zero c.lum rests, none rests]
    · obtain ⟨source, follow⟩ := not_or.1 rests
      obtain ⟨w, is⟩ := Option.ne_none_iff_exists'.1 follow
      have bounds := follows w source is
      rw [followTerm_of c.lum source is]
      omega
  have level : mastered (sumLevel x.base f) c.masters[(c.patch[n]).group] x.source = v2 := by
    rw [sumLevel_eq sum]
    by_cases is : x.source = .safety
    · rw [is, safety is]
      rfl
    · rw [mastered_driven _ _ is, driven is]
  have out : (c.output n x).out = (c.patch[n]).curve.shape v3 := by
    unfold Computation.output
    dsimp only
    rw [term, level, limited]
  refine ⟨?_, fun curve => ?_, fun curve => ?_⟩
  · unfold Computation.output saturates
    dsimp only
    rw [term, decide_eq_true_eq]
  · rw [out, curve]
    rfl
  · rw [out, curve, Nat.pow_two]
    rfl

/-! ### The slots (R53, R64) -/

theorem PatchRec.slotByte_one {p : PatchRec} (one : p.width = 1) (out slot : Nat) :
    p.slotByte out slot = BitVec.ofNat 8 (out / 256) := by
  unfold slotByte
  rw [one]
  rfl

theorem PatchRec.slotByte_first {p : PatchRec} (two : p.width = 2) (out : Nat) :
    p.slotByte out p.slot = if p.fineFirst then BitVec.ofNat 8 out else BitVec.ofNat 8 (out / 256) := by
  unfold slotByte
  rw [if_pos two, decide_eq_true rfl]
  cases p.fineFirst <;> rfl

theorem PatchRec.slotByte_second {p : PatchRec} (two : p.width = 2) (out : Nat) :
    p.slotByte out (p.slot + 1) = if p.fineFirst then BitVec.ofNat 8 (out / 256) else BitVec.ofNat 8 out := by
  unfold slotByte
  rw [if_pos two, decide_eq_false (by omega)]
  cases p.fineFirst <;> rfl

theorem PatchRec.occupies_iff (p : PatchRec) (l : LineNo) (slot : Nat) : p.occupies l slot = true ↔
    p.line = some l ∧ p.slot ≤ slot ∧ slot ≤ p.lastSlot := by
  unfold occupies lastSlot
  by_cases two : p.width = 2
  · simp only [two, Bool.and_eq_true, Bool.or_eq_true, decide_eq_true_eq, beq_iff_eq, true_and, if_true]
    exact and_congr_right fun _ => by omega
  · simp only [two, Bool.and_eq_true, Bool.or_eq_true, decide_eq_true_eq, beq_iff_eq, false_and, or_false, if_false]
    exact and_congr_right fun _ => by omega

theorem PatchRec.occupies_slot {p : PatchRec} {l : LineNo} (line : p.line = some l) : p.occupies l p.slot = true := by
  refine (p.occupies_iff l _).2 ⟨line, le_rfl, ?_⟩
  unfold lastSlot
  split <;> omega

theorem PatchRec.occupies_next {p : PatchRec} {l : LineNo} (line : p.line = some l) (two : p.width = 2) :
    p.occupies l (p.slot + 1) = true := by
  refine (p.occupies_iff l _).2 ⟨line, Nat.le_succ _, ?_⟩
  unfold lastSlot
  rw [if_pos two]

/-- Two channels that occupy one slot overlap. -/
theorem PatchRec.overlaps_of_occupies {p q : PatchRec} {l : LineNo} {slot : Nat} (hp : p.occupies l slot = true)
    (hq : q.occupies l slot = true) : p.overlaps q = true := by
  obtain ⟨lineP, lowP, highP⟩ := (p.occupies_iff l slot).1 hp
  obtain ⟨lineQ, lowQ, highQ⟩ := (q.occupies_iff l slot).1 hq
  unfold overlaps
  rw [lineP, lineQ]
  simp only [Option.isSome_some, decide_true, Bool.true_and, decide_eq_true_eq]
  omega

/-- Where the patch keeps the channels apart, a slot shows the channel that occupies it. -/
theorem slotValue_of {s : State} (legal : s.patchLegal) {n : ChannelNo} {l : LineNo} {slot : Nat}
    (occupies : (s.level.patch[n]).occupies l slot = true) :
    slotValue s.level.patch s.level.results l slot = (s.level.patch[n]).slotByte (s.level.results[n]).out slot := by
  have found : (List.finRange 1024).find? (fun m => (s.level.patch[m]).occupies l slot) = some n := by
    refine find?_finRange occupies fun m before => Bool.eq_false_iff.2 fun is => ?_
    exact absurd (PatchRec.overlaps_of_occupies is occupies) (by rw [legal.1 m n (Fin.ne_of_lt before)]; decide)
  unfold slotValue
  rw [found]

theorem slotValue_free {patch : Vector PatchRec 1024} {l : LineNo} {slot : Nat}
    (free : ∀ n : ChannelNo, (patch[n]).occupies l slot = false) (results : Vector ChannelResult 1024) :
    slotValue patch results l slot = 0 := by
  have absent : (List.finRange 1024).find? (fun m => (patch[m]).occupies l slot) = none :=
    List.find?_eq_none.2 fun m _ => ne_true_of_eq_false (free m)
  unfold slotValue
  rw [absent]

/-- Settles O25: the fade by its weight, its context by what has changed, and the stages one after the other. -/
theorem levelsReachTheirSlots : Obligations.LevelsReachTheirSlots := by
  refine ⟨fadeBase_laws, fun c n x => ⟨c.fade_base n x, Computation.fade_goes, fun changed => ?_⟩,
    fun c n x f v v2 v3 => ?_, fun c n => ⟨fun v => Computation.target_safety, fun rest =>
      ⟨fun e v d there apart takeover item highest => ?_, fun absent => ?_⟩⟩, fun s l legal => ⟨fun n line => ?_, fun slot free =>
      slotValue_free free _⟩⟩
  · obtain ⟨start, target, source, k, how⟩ := Computation.fade_restarts changed
    have frames := congrArg Prod.fst how
    have curve := congrArg Prod.snd how
    dsimp only at frames curve
    refine ⟨start, target, source, k, fun now before => ?_, fun other => ?_, fun safety => ?_, fun l before => ⟨fun now => ?_,
      fun m now lt => ?_⟩, fun e v d now there apart takeover item highest below => ?_⟩
    · rw [frames, curve, now, before]
      exact ⟨rfl, rfl⟩
    · exact curve.trans (c.restartFade_curve n other)
    · exact frames.trans (c.restartFade_safety n safety)
    · rw [frames, before]
      exact c.restartFade_released n (.inl now)
    · rw [frames, before]
      exact c.restartFade_released n (.inr ⟨m, now, lt⟩)
    · rw [frames, now, c.restartFade_entered n below]
      exact Computation.entryFade_of (overrideInForce_highest there apart takeover (by rw [item]; rfl) highest) item
  · exact c.output_laws n x f v v2 v3
  · exact Computation.target_override rest
      (overrideInForce_highest there apart takeover (by rw [item]; rfl) highest) item
  · rw [Computation.target_rest rest, overrideInForce_none absent]
  · refine ⟨fun one => ?_, fun two coarse => ⟨?_, ?_⟩, fun two fine => ⟨?_, ?_⟩⟩
    · rw [slotValue_of legal (PatchRec.occupies_slot line), PatchRec.slotByte_one one]
    · rw [slotValue_of legal (PatchRec.occupies_slot line), PatchRec.slotByte_first two, coarse]
      rfl
    · rw [slotValue_of legal (PatchRec.occupies_next line two), PatchRec.slotByte_second two, coarse]
      rfl
    · rw [slotValue_of legal (PatchRec.occupies_slot line), PatchRec.slotByte_first two, fine]
      rfl
    · rw [slotValue_of legal (PatchRec.occupies_next line two), PatchRec.slotByte_second two, fine]
      rfl

end Sys2Proof.Machine
end

section
/-! PROOF. The actions of a firing: the claims before them, the guards of a write, and the entries of the override table. -/

namespace Sys2Proof.Machine

variable {s : State} {k : StackNo} {cue place : Nat} {a : Action}

/-! ### Claims and guards (R105) -/

theorem State.act_denied (level : isTakeover (s.cue.recs[k]).level = false) {i : Item} (item : i ∈ a.items)
    (denied : s.access.denied (s.access.stackOwner k) i = true) :
    s.act k cue place a = s.skipAction k cue place .denied := by
  unfold State.act
  rw [level, List.any_eq_true.2 ⟨i, item, denied⟩]
  rfl

theorem State.act_free (free : isTakeover (s.cue.recs[k]).level = true ∨
    ∀ i ∈ a.items, s.access.denied (s.access.stackOwner k) i = false) : s.act k cue place a = s.actEffect k cue place a := by
  have passes : (!isTakeover (s.cue.recs[k]).level && a.items.any (s.access.denied (s.access.stackOwner k))) = false := by
    rcases free with level | items
    · rw [level]; rfl
    · rw [List.any_eq_false.2 fun i there => ne_true_of_eq_false (items i there), Bool.and_false]
  unfold State.act
  rw [passes]
  rfl

/-- An action that writes banks or a master does what the guards of its writes decide. -/
theorem State.actionWrite_decides (s : State) (k : StackNo) (cue place : Nat) {ws : List ItemWrite}
    (kinds : ∀ v ∈ ws, ∀ w ∈ ws, v.kind = w.kind) :
    s.guardsDecide (.stack k) ws (s.actionWrite k cue place false ws = s.skipAction k cue place .guarded)
      (s.actionWrite k cue place false ws = s.skipAction k cue place .queueFull)
      fun t _ => s.actionWrite k cue place false ws = t := by
  have outcome : s.actionWrite k cue place false ws = match s.guardWrite (.stack k) ws with
      | .guarded => s.skipAction k cue place .guarded
      | .queueFull => s.skipAction k cue place .queueFull
      | .passed t _ => t := rfl
  rw [outcome]
  refine State.guardsDecide_of kinds (fun is => ?_) (fun is => ?_) fun t held is => ?_
  all_goals rw [is]

theorem State.actionWrite_busy (s : State) (k : StackNo) (cue place : Nat) (ws : List ItemWrite) :
    s.actionWrite k cue place true ws = s.skipAction k cue place .bankBusy := rfl

theorem State.presetBusy_true {role : BankRole} (preset : role = .preset) (running : s.scene.inFlight = true) :
    s.presetBusy role = true := by
  unfold State.presetBusy
  rw [preset, running]
  rfl

theorem State.presetBusy_false {role : BankRole} (free : role = .program ∨ s.scene.inFlight = false) :
    s.presetBusy role = false := by
  unfold State.presetBusy
  rcases free with program | idle
  · rw [program]; rfl
  · rw [idle, Bool.and_false]

/-! ### The override table (R121) -/

/-- Entries written in order: a key that none of them has keeps its entry. -/
theorem overrideAt_writes_other {es : List Override} {key : OverrideKey} {l : Nat}
    (other : ∀ e ∈ es, ¬ (e.level = l ∧ e.item.key = key)) (table : List Override) :
    overrideAt (es.foldl writeOverride table) key l = overrideAt table key l := by
  induction es generalizing table with
  | nil => rfl
  | cons e es ih =>
    rw [List.foldl_cons, ih (fun x there => other x (List.mem_cons_of_mem _ there)), overrideAt_write,
      if_neg (other e List.mem_cons_self)]

/-- Entries written in order: a key that one of them has, and no other, shows it. -/
theorem overrideAt_writes_same {es : List Override} {e : Override} (there : e ∈ es)
    (alone : ∀ x ∈ es, x.level = e.level → x.item.key = e.item.key → x = e) (table : List Override) :
    overrideAt (es.foldl writeOverride table) e.item.key e.level = some e := by
  induction es using List.reverseRecOn with
  | nil => cases there
  | append_singleton es x ih =>
    rw [List.foldl_append, List.foldl_cons, List.foldl_nil, overrideAt_write]
    by_cases same : x.level = e.level ∧ x.item.key = e.item.key
    · rw [if_pos same, alone x (by simp) same.1 same.2]
    · rw [if_neg same]
      have within' : e ∈ es := by
        rcases List.mem_append.1 there with front | last
        · exact front
        · rw [List.mem_singleton.1 last] at same
          exact absurd ⟨rfl, rfl⟩ same
      exact ih within' fun y before => alone y (List.mem_append_left _ before)

theorem any_isNone (table : List Override) (e : Override) :
    (!table.any fun x => x.level == e.level && decide (x.item.key = e.item.key)) =
      (overrideAt table e.item.key e.level).isNone := by
  unfold overrideAt
  rw [Bool.eq_iff_iff, Bool.not_eq_true', List.any_eq_false, Option.isNone_iff_eq_none, List.find?_eq_none]

theorem newKeys_length (table es : List Override) :
    newKeys table es = (es.filter fun e => (overrideAt table e.item.key e.level).isNone).length := by
  simp only [newKeys, any_isNone]

theorem State.routingSet_overrideFull (s : State) (cue needed free : Nat) (now : Frame) :
    s.routingSet (.overrideFull k cue needed free now) = s.ports.routing[(12 : Fin 16)] := rfl
theorem State.routingSet_guardAlert (s : State) (i : GuardedItem) (g : Guard) (w : Writer) (kind : WriteKind)
    (now : Frame) : s.routingSet (.guardAlert i g w kind now) = s.ports.routing[(7 : Fin 16)] := rfl

section
variable {es : List Override}

theorem State.overrideWrite_refused (refused : ∃ e ∈ es, s.shotGuard e.item.guardItem = some .refuse) :
    s.overrideWrite k cue place es = s.skipAction k cue place .guarded := by
  obtain ⟨e, there, refuses⟩ := refused
  have any : (es.map fun e : Override => e.item.guardItem).any (fun i => decide (s.shotGuard i = some Guard.refuse)) = true :=
    List.any_eq_true.2 ⟨_, List.mem_map_of_mem there, decide_eq_true refuses⟩
  unfold State.overrideWrite
  exact if_pos any

theorem State.overrideWrite_passes (passes : ∀ e ∈ es, s.shotGuard e.item.guardItem ≠ some Guard.refuse) :
    (es.map fun e : Override => e.item.guardItem).any (fun i => decide (s.shotGuard i = some Guard.refuse)) = false := by
  refine List.any_eq_false.2 fun i there => ?_
  obtain ⟨e, at', rfl⟩ := List.mem_map.1 there
  simpa using passes e at'

theorem State.overrideWrite_full (passes : ∀ e ∈ es, s.shotGuard e.item.guardItem ≠ some .refuse)
    (full : 256 - s.takeover.overrides.length < newKeys s.takeover.overrides es) : s.overrideWrite k cue place es =
      (s.skipAction k cue place .overrideFull).raiseTo s.ports.routing[(12 : Fin 16)]
        (.overrideFull k cue (newKeys s.takeover.overrides es) (256 - s.takeover.overrides.length) s.ref.counter) := by
  unfold State.overrideWrite
  dsimp only
  rw [State.overrideWrite_passes passes, if_neg Bool.false_ne_true]
  exact if_pos full

/-- The items of an override write whose guard is told of. -/
def State.alertingItems (s : State) (es : List Override) : List GuardedItem :=
  (es.map fun e => e.item.guardItem).filter fun i =>
    decide (s.shotGuard i = some .alert ∨ s.shotGuard i = some .defer)

theorem State.overrideWrite_stores (passes : ∀ e ∈ es, s.shotGuard e.item.guardItem ≠ some .refuse)
    (room : newKeys s.takeover.overrides es ≤ 256 - s.takeover.overrides.length) : s.overrideWrite k cue place es =
      ({ s with takeover := { s.takeover with
        overrides := es.foldl writeOverride s.takeover.overrides } } : State).raiseGuardAlert (s.alertingItems es)
          (.stack k) .override := by
  unfold State.overrideWrite
  dsimp only
  rw [State.overrideWrite_passes passes, if_neg Bool.false_ne_true]
  exact if_neg (Nat.not_lt.2 room)

theorem State.raiseGuardAlert_lowest {items : List GuardedItem} {i : GuardedItem} (low : lowestItem items = some i)
    (guarded : s.shotGuard i = some .alert ∨ s.shotGuard i = some .defer) (w : Writer) (kind : WriteKind) :
    s.raiseGuardAlert items w kind = s.raiseTo s.ports.routing[(7 : Fin 16)]
      (.guardAlert i ((s.shotGuard i).getD .openMode) w kind s.ref.counter) := by
  unfold State.raiseGuardAlert
  rw [low]
  dsimp only
  rcases guarded with is | is
  · rw [is]
    exact congrArg (fun d => s.raiseTo d _) (s.routingSet_guardAlert i .alert w kind s.ref.counter)
  · rw [is]
    exact congrArg (fun d => s.raiseTo d _) (s.routingSet_guardAlert i .defer w kind s.ref.counter)

theorem State.alertingItems_none (calm : ∀ e ∈ es, ¬ (s.shotGuard e.item.guardItem = some .alert ∨
    s.shotGuard e.item.guardItem = some .defer)) : s.alertingItems es = [] := by
  refine List.filter_eq_nil_iff.2 fun i there => ?_
  obtain ⟨e, at', rfl⟩ := List.mem_map.1 there
  simpa using calm e at'

theorem State.mem_alertingItems {i : GuardedItem} : i ∈ s.alertingItems es ↔
    (∃ e ∈ es, e.item.guardItem = i) ∧ (s.shotGuard i = some .alert ∨ s.shotGuard i = some .defer) := by
  simp [State.alertingItems]

end

/-! ### The actions that write overrides -/

/-- The entries of a LEVEL action at takeover level `l`. -/
def levelEntries (l : Nat) (k : StackNo) (first last : ChannelNo) (v d : Nat) : List Override :=
  (channelRange first last).map fun n => ⟨l, .channel n v d, k⟩

theorem mem_levelEntries {l : Nat} {first last : ChannelNo} {v d : Nat} {e : Override} :
    e ∈ levelEntries l k first last v d ↔ ∃ n : ChannelNo, first ≤ n ∧ n ≤ last ∧ e = ⟨l, .channel n v d, k⟩ := by
  simp only [levelEntries, List.mem_map, mem_channelRange, and_assoc, eq_comm]

theorem newKeys_levelEntries (table : List Override) (l : Nat) (k : StackNo) (first last : ChannelNo) (v d : Nat) :
    newKeys table (levelEntries l k first last v d) =
      ((channelRange first last).filter fun n => (overrideAt table (.channel n) l).isNone).length := by
  rw [newKeys_length, levelEntries, List.filter_map, List.length_map]
  rfl

theorem newKeys_windowEntry (table : List Override) (l : Nat) (w : WindowNo) (v : FieldValue) (k : StackNo) :
    newKeys table [⟨l, .window w v, k⟩] = if (overrideAt table (.window w v.group) l).isNone then 1 else 0 := by
  rw [newKeys_length, List.filter_singleton]
  change (bif (overrideAt table (.window w v.group) l).isNone then _ else _ : List Override).length = _
  cases (overrideAt table (.window w v.group) l).isNone <;> rfl

theorem overrideAt_levelEntries (table : List Override) (lv : Nat) (k : StackNo) (first last : ChannelNo) (v d : Nat)
    (key : OverrideKey) (l : Nat) : overrideAt ((levelEntries lv k first last v d).foldl writeOverride table) key l =
      if l = lv then
        (match (match key with
          | .channel n => if first ≤ n ∧ n ≤ last then some (.channel n v d) else none
          | .window _ _ => none : Option OverrideItem) with
        | some i => some ⟨lv, i, k⟩
        | none => overrideAt table key l)
      else overrideAt table key l := by
  have other (out : ∀ n : ChannelNo, first ≤ n → n ≤ last → ¬ (lv = l ∧ OverrideKey.channel n = key)) :
      overrideAt ((levelEntries lv k first last v d).foldl writeOverride table) key l = overrideAt table key l := by
    refine overrideAt_writes_other (fun e there => ?_) table
    obtain ⟨n, low, high, rfl⟩ := mem_levelEntries.1 there
    exact out n low high
  by_cases level : l = lv
  · subst level
    rw [if_pos rfl]
    cases key with
    | window w g => exact other fun n _ _ same => nomatch same.2
    | channel n =>
      by_cases within' : first ≤ n ∧ n ≤ last
      · dsimp only
        rw [if_pos within']
        refine overrideAt_writes_same (e := ⟨l, .channel n v d, k⟩)
          (mem_levelEntries.2 ⟨n, within'.1, within'.2, rfl⟩) (fun x there _ same => ?_) table
        obtain ⟨m, -, -, rfl⟩ := mem_levelEntries.1 there
        cases same
        rfl
      · dsimp only
        rw [if_neg within']
        refine other fun m low high same => within' ?_
        cases same.2
        exact ⟨low, high⟩
  · rw [if_neg level]
    exact other fun n _ _ same => level same.1.symm

theorem overrideAt_windowEntry (table : List Override) (lv : Nat) (k : StackNo) (w : WindowNo) (v : FieldValue)
    (key : OverrideKey) (l : Nat) : overrideAt ([(⟨lv, .window w v, k⟩ : Override)].foldl writeOverride table) key l =
      if l = lv then
        (match (if key = .window w v.group then some (.window w v) else none : Option OverrideItem) with
        | some i => some ⟨lv, i, k⟩
        | none => overrideAt table key l)
      else overrideAt table key l := by
  rw [List.foldl_cons, List.foldl_nil, overrideAt_write]
  change (if lv = l ∧ OverrideKey.window w v.group = key then _ else _) = _
  by_cases level : l = lv
  · subst level
    by_cases same : key = .window w v.group
    · subst same
      simp
    · rw [if_pos rfl, if_neg same, if_neg fun h => same h.2.symm]
  · rw [if_neg level, if_neg fun h => level h.1.symm]

/-- Settles O28: the claims decide first, then the transition in flight, then the guards and the table's room. -/
theorem cueActionsExecute : Obligations.CueActionsExecute := by
  intro s k cue place owner level skipped skips guarded
  have skip : skipped = s.skipAction k cue place := by
    funext reason
    change (s.modStack k _).raiseTo _ _ = (s.modStack k _).raiseStack k _
    unfold State.raiseStack
    refine congrArg (fun d => (s.modStack k _).raiseTo d _) ?_
    unfold State.stackDest
    change (match s.access.stackOwner k with | some p => onlyPort p | none => _) = match s.access.stackOwner k with
      | some p => onlyPort p | none => _
    cases s.access.stackOwner k <;> rfl
  have skip_of {a : Action} {reason : SkipReason} (is : s.act k cue place a = s.skipAction k cue place reason) :
      skips a reason := is.trans (congrFun skip reason).symm
  have guarded_of {a : Action} {ws : List ItemWrite} (kinds : ∀ v ∈ ws, ∀ w ∈ ws, v.kind = w.kind)
      (is : s.act k cue place a = s.actionWrite k cue place false ws) : guarded a ws := by
    change s.guardsDecide (.stack k) ws (s.act k cue place a = skipped .guarded) (s.act k cue place a = skipped .queueFull)
      fun t _ => s.act k cue place a = t
    rw [skip, is]
    exact s.actionWrite_decides k cue place kinds
  have one {i : Item} (free : s.access.denied owner i = false) (j : Item) (there : j ∈ [i]) :
      s.access.denied owner j = false := List.mem_singleton.1 there ▸ free
  refine ⟨fun show' => ⟨fun role first last n v d low high denied => ?_, fun role w v denied => ?_, fun g v denied => ?_,
    fun j denied => ?_, fun role first last v d free => ?_, fun role w v free => ?_⟩, fun g v free => ?_, fun j free => ?_,
    ⟨fun running => ?_, fun idle => ?_⟩, fun takeover => ?_⟩
  · exact skip_of (State.act_denied show' (List.mem_map_of_mem (mem_channelRange.2 ⟨low, high⟩)) denied)
  · exact skip_of (State.act_denied show' (List.mem_singleton_self _) denied)
  · exact skip_of (State.act_denied show' (List.mem_singleton_self _) denied)
  · exact skip_of (State.act_denied show' (List.mem_singleton_self _) denied)
  · have act : s.act k cue place (.level role first last v d) = s.actionWrite k cue place (s.presetBusy role)
        ((channelRange first last).map fun n => .channel (s.scene.resolve role) n v (some d) none) := by
      rw [State.act_free (.inr fun i there => ?_)]
      · exact if_neg (ne_true_of_eq_false show')
      · obtain ⟨n, within', rfl⟩ := List.mem_map.1 there
        obtain ⟨low, high⟩ := mem_channelRange.1 within'
        exact free n low high
    refine ⟨fun preset running => skip_of ?_, fun passes => guarded_of (fun v there w there' => ?_) ?_⟩
    · rw [act, State.presetBusy_true preset running, State.actionWrite_busy]
    · obtain ⟨_, -, rfl⟩ := List.mem_map.1 there
      obtain ⟨_, -, rfl⟩ := List.mem_map.1 there'
      rfl
    · rw [act, State.presetBusy_false passes]
  · have act : s.act k cue place (.window role w v) = s.actionWrite k cue place (s.presetBusy role)
        [.window (s.scene.resolve role) w v] := by
      refine (State.act_free (s := s) (k := k) (a := .window role w v) (.inr (one free))).trans ?_
      exact if_neg (ne_true_of_eq_false show')
    refine ⟨fun preset running => skip_of ?_, fun passes => guarded_of (by simp) ?_⟩
    · rw [act, State.presetBusy_true preset running, State.actionWrite_busy]
    · rw [act, State.presetBusy_false passes]
  · exact guarded_of (by simp) (State.act_free (free.imp_right one))
  · exact State.act_free (free.imp_right one)
  · refine skip_of ((State.act_free (.inr fun i there => absurd there List.not_mem_nil)).trans ?_)
    exact if_pos running
  · refine (State.act_free (.inr fun i there => absurd there List.not_mem_nil)).trans ?_
    have copies : s.actEffect k cue place .copy = s.copyBanks := if_neg (ne_true_of_eq_false idle)
    rw [copies]
    simp only [State.copyBanks, decide_not]
  · intro free overflows stores alerts
    have full_of {a : Action} {es : List Override} {needed : Nat} (act : s.act k cue place a = s.overrideWrite k cue place es)
        (keys : newKeys s.takeover.overrides es = needed)
        (passes : ∀ e ∈ es, s.shotGuard e.item.guardItem ≠ some .refuse) (full : free < needed) : overflows a needed := by
      change s.act k cue place a = (skipped .overrideFull).raiseTo _ _
      rw [act, State.overrideWrite_full passes (keys.symm ▸ full), keys, skip]
      rfl
    have none_of {a : Action} {es : List Override} {needed : Nat} {item : OverrideKey → Option OverrideItem}
        (act : s.act k cue place a = s.overrideWrite k cue place es)
        (keys : newKeys s.takeover.overrides es = needed)
        (passes : ∀ e ∈ es, s.shotGuard e.item.guardItem ≠ some .refuse) (room : needed ≤ free)
        (table : ∀ (key : OverrideKey) (l : Nat), overrideAt (es.foldl writeOverride s.takeover.overrides) key l =
          if l = level then
            (match item key with
              | some i => some ⟨level, i, k⟩
              | none => overrideAt s.takeover.overrides key l)
          else overrideAt s.takeover.overrides key l)
        (calm : ∀ e ∈ es, ¬ alerts e.item.guardItem) : stores a item none := by
      refine ⟨_, table, ?_⟩
      rw [act, State.overrideWrite_stores passes (keys.symm ▸ room), State.alertingItems_none calm,
        State.raiseGuardAlert_nil]
    have some_of {a : Action} {es : List Override} {needed : Nat} {item : OverrideKey → Option OverrideItem}
        {i : GuardedItem} (act : s.act k cue place a = s.overrideWrite k cue place es)
        (keys : newKeys s.takeover.overrides es = needed)
        (passes : ∀ e ∈ es, s.shotGuard e.item.guardItem ≠ some .refuse) (room : needed ≤ free)
        (table : ∀ (key : OverrideKey) (l : Nat), overrideAt (es.foldl writeOverride s.takeover.overrides) key l =
          if l = level then
            (match item key with
              | some i => some ⟨level, i, k⟩
              | none => overrideAt s.takeover.overrides key l)
          else overrideAt s.takeover.overrides key l)
        (low : lowestItem (s.alertingItems es) = some i) (guarded : alerts i) : stores a item (some i) := by
      refine ⟨_, table, ?_⟩
      rw [act, State.overrideWrite_stores passes (keys.symm ▸ room)]
      refine (State.raiseGuardAlert_lowest low ?_ _ _).trans rfl
      exact guarded
    refine ⟨?_, ?_⟩
    · intro role first last v d a needed item
      have act : s.act k cue place a = s.overrideWrite k cue place (levelEntries level k first last v d) := by
        rw [State.act_free (.inl takeover)]
        exact if_pos takeover
      have keys : newKeys s.takeover.overrides (levelEntries level k first last v d) = needed :=
        newKeys_levelEntries _ _ _ _ _ _ _
      have table := overrideAt_levelEntries s.takeover.overrides level k first last v d
      have each {P : GuardedItem → Prop} (all : ∀ n : ChannelNo, first ≤ n → n ≤ last → P (.channel n)) :
          ∀ e ∈ levelEntries level k first last v d, P e.item.guardItem := fun e there => by
        obtain ⟨n, low, high, rfl⟩ := mem_levelEntries.1 there
        exact all n low high
      have passes_all (passes : ∀ n : ChannelNo, first ≤ n → n ≤ last → s.shotGuard (.channel n) ≠ some .refuse) :
          ∀ e ∈ levelEntries level k first last v d, s.shotGuard e.item.guardItem ≠ some .refuse :=
        each (P := fun i => s.shotGuard i ≠ some .refuse) passes
      refine ⟨fun ⟨n, low, high, refuses⟩ => skip_of ?_, fun passes => ⟨full_of act keys (passes_all passes), fun room =>
        ⟨fun calm => none_of act keys (passes_all passes) room table (each (P := fun i => ¬ alerts i) calm), fun n low high guarded below =>
          some_of act keys (passes_all passes) room table ?_ guarded⟩⟩⟩
      · rw [act]
        exact State.overrideWrite_refused ⟨_, mem_levelEntries.2 ⟨n, low, high, rfl⟩, refuses⟩
      · refine lowestItem_channel (State.mem_alertingItems.2
          ⟨⟨_, mem_levelEntries.2 ⟨n, low, high, rfl⟩, rfl⟩, guarded⟩) fun j there => ?_
        obtain ⟨⟨e, among, rfl⟩, alerting⟩ := State.mem_alertingItems.1 there
        obtain ⟨m, fromFirst, -, rfl⟩ := mem_levelEntries.1 among
        exact ⟨m, rfl, fun before => below m fromFirst before alerting⟩
    · intro role w v a needed item
      have act : s.act k cue place a = s.overrideWrite k cue place [⟨level, .window w v, k⟩] := by
        rw [State.act_free (.inl takeover)]
        exact if_pos takeover
      have keys : newKeys s.takeover.overrides [⟨level, .window w v, k⟩] = needed := newKeys_windowEntry _ _ _ _ _
      have table := overrideAt_windowEntry s.takeover.overrides level k w v
      have each {P : GuardedItem → Prop} (is : P (.window w)) :
          ∀ e ∈ [(⟨level, .window w v, k⟩ : Override)], P e.item.guardItem := fun e there => by
        rw [List.mem_singleton.1 there]
        exact is
      have passes_all (passes : s.shotGuard (.window w) ≠ some .refuse) :
          ∀ e ∈ [(⟨level, .window w v, k⟩ : Override)], s.shotGuard e.item.guardItem ≠ some .refuse :=
        each (P := fun i => s.shotGuard i ≠ some .refuse) passes
      refine ⟨fun refuses => skip_of ?_, fun passes => ⟨full_of act keys (passes_all passes), fun room =>
        ⟨fun calm => none_of act keys (passes_all passes) room table (each (P := fun i => ¬ alerts i) calm), fun guarded =>
          some_of act keys (passes_all passes) room table ?_ guarded⟩⟩⟩
      · rw [act]
        exact State.overrideWrite_refused ⟨_, List.mem_singleton_self _, refuses⟩
      · have alone : s.alertingItems [⟨level, .window w v, k⟩] = [.window w] :=
          List.filter_eq_self.2 fun i there => decide_eq_true (List.mem_singleton.1 there ▸ guarded)
        rw [alone]
        rfl

end Sys2Proof.Machine
end

section
/-! PROOF. A MARK stack by stack: the chained GOs, the grant and what the turn of one stack spares of the others. -/

namespace Sys2Proof.Machine

/-! ### The chained GOs (R116) -/

theorem State.modStack_id (s : State) (k : StackNo) : s.modStack k id = s := by
  unfold State.modStack
  rw [updAt_id _ _ _ rfl]

theorem State.modStack_modStack (s : State) (k : StackNo) (f g : StackRec → StackRec) :
    (s.modStack k f).modStack k g = s.modStack k fun r => g (f r) := by
  unfold State.modStack
  dsimp only
  rw [updAt_updAt]

/-- A chained GO changes its own stack's record alone, and not its level. -/
theorem State.takeChained_own (s : State) (k : StackNo) : ∃ f : StackRec → StackRec, s.takeChained k = s.modStack k f ∧
    (f s.cue.recs[k]).level = (s.cue.recs[k]).level := by
  have still (u : State) : u = u.modStack k id := (u.modStack_id k).symm
  have twice (u : State) (f g : StackRec → StackRec) : (u.modStack k f).modStack k g = u.modStack k fun r => g (f r) :=
    u.modStack_modStack k f g
  have go (u : State) : ∃ f : StackRec → StackRec, (u.goEffect k).2 = u.modStack k f ∧ ∀ r, (f r).level = r.level := by
    unfold State.goEffect
    dsimp only
    split
    · exact ⟨id, still u, fun _ => rfl⟩
    · exact ⟨id, still u, fun _ => rfl⟩
    · split
      · split
        · exact ⟨id, still u, fun _ => rfl⟩
        · exact ⟨_, rfl, fun _ => rfl⟩
      · unfold State.takeoverGo
        dsimp only
        split
        · exact ⟨_, rfl, fun _ => rfl⟩
        · split
          · exact ⟨_, rfl, fun _ => rfl⟩
          · split
            · exact ⟨id, still u, fun _ => rfl⟩
            · split
              · exact ⟨_, rfl, fun _ => rfl⟩
              · exact ⟨_, rfl, fun _ => rfl⟩
  unfold State.takeChained
  split
  · obtain ⟨f, is, level⟩ := go (s.modStack k fun r => { r with chainedGo := false })
    rw [is, twice]
    exact ⟨_, rfl, level _⟩
  · exact ⟨id, still s, rfl⟩

theorem State.takeChained_of_none {s : State} {k : StackNo} (none : (s.cue.recs[k]).chainedGo = false) :
    s.takeChained k = s := by
  unfold State.takeChained
  rw [none]
  rfl

theorem State.takeChained_of_some {s : State} {k : StackNo} (chained : (s.cue.recs[k]).chainedGo = true) :
    s.takeChained k = ((s.modStack k fun r => { r with chainedGo := false }).goEffect k).2 := by
  unfold State.takeChained
  rw [chained]
  rfl

/-- What the chained GOs leave of the state: all but the stacks' records, the levels in them, and the records of the
stacks without one. -/
structure State.ChainsTaken (s t : State) : Prop where
  shape : t = { s with cue := { s.cue with recs := t.cue.recs } }
  levels : ∀ j : StackNo, (t.cue.recs[j]).level = (s.cue.recs[j]).level
  others : ∀ j : StackNo, (s.cue.recs[j]).chainedGo = false → t.cue.recs[j] = s.cue.recs[j]

theorem State.takeChained_taken (s : State) (k : StackNo) : s.ChainsTaken (s.takeChained k) := by
  by_cases chained : (s.cue.recs[k]).chainedGo = true
  · obtain ⟨f, is, level⟩ := s.takeChained_own k
    rw [is]
    refine ⟨rfl, s.modStack_levels level, fun j none => ?_⟩
    rw [State.modStack_at, if_neg fun same => ?_]
    rw [same, none] at chained
    cases chained
  · rw [State.takeChained_of_none (eq_false_of_ne_true chained)]
    exact ⟨rfl, fun _ => rfl, fun _ _ => rfl⟩

theorem State.ChainsTaken.trans {s t u : State} (a : s.ChainsTaken t) (b : t.ChainsTaken u) : s.ChainsTaken u := by
  refine ⟨?_, fun j => (b.levels j).trans (a.levels j), fun j none => ?_⟩
  · rw [b.shape, a.shape]
  · have same := a.others j none
    exact (b.others j (same ▸ none)).trans same

theorem State.takeAllChained_taken (s : State) : s.ChainsTaken s.takeAllChained := by
  have fold : ∀ (l : List StackNo) (s : State), s.ChainsTaken (l.foldl State.takeChained s) := by
    intro l
    induction l with
    | nil => exact fun s => ⟨rfl, fun _ => rfl, fun _ _ => rfl⟩
    | cons k l ih => exact fun s => (s.takeChained_taken k).trans (ih _)
  exact fold _ s

theorem State.ChainsTaken.takeover {s t : State} (a : s.ChainsTaken t) : t.takeover = s.takeover := by rw [a.shape]
theorem State.ChainsTaken.ref {s t : State} (a : s.ChainsTaken t) : t.ref = s.ref := by rw [a.shape]

theorem foldl_takeChained_none {s : State} (l : List StackNo) (none : ∀ j ∈ l, (s.cue.recs[j]).chainedGo = false) :
    l.foldl State.takeChained s = s := by
  induction l with
  | nil => rfl
  | cons k l ih =>
    rw [List.foldl_cons, State.takeChained_of_none (none k List.mem_cons_self)]
    exact ih fun j there => none j (List.mem_cons_of_mem _ there)

/-- Where no other stack has a chained GO, the GOs of a MARK are the one of stack `k`. -/
theorem State.takeAllChained_alone {s : State} {k : StackNo} (none : ∀ j, j ≠ k → (s.cue.recs[j]).chainedGo = false) :
    s.takeAllChained = s.takeChained k := by
  obtain ⟨before, after, split⟩ := List.append_of_mem (List.mem_finRange k)
  have once := split ▸ List.nodup_finRange 8
  obtain ⟨_, tail, apart⟩ := List.nodup_append.1 once
  have front : ∀ j ∈ before, j ≠ k := fun j there => apart j there k List.mem_cons_self
  have behind : ∀ j ∈ after, j ≠ k := fun j there same => (List.nodup_cons.1 tail).1 (same ▸ there)
  have all : s.takeAllChained = (List.finRange 8).foldl State.takeChained s := rfl
  rw [all, split, List.foldl_append, foldl_takeChained_none before fun j there => none j (front j there),
    List.foldl_cons]
  refine foldl_takeChained_none after fun j there => ?_
  rw [(s.takeChained_taken k).others j (none j (behind j there))]
  exact none j (behind j there)

theorem State.takeAllChained_none {s : State} (none : ∀ j : StackNo, (s.cue.recs[j]).chainedGo = false) : s.takeAllChained = s :=
  foldl_takeChained_none _ fun j _ => none j

/-! ### The grant (R118) -/

/-- A stack that neither waits for its level nor has a pending GO does not ask for a grant. -/
theorem State.asks_not {s : State} {j : StackNo} (calm : ∀ n, (s.cue.recs[j]).state ≠ .waiting n)
    (none : (s.cue.recs[j]).pendingGo = false) : (s.presented j || s.eligible j) = false := by
  refine Bool.or_eq_false_iff.2 ⟨Bool.eq_false_iff.2 fun presented => ?_, ?_⟩
  · obtain ⟨-, -, -, n, waits⟩ := (s.presented_iff j).1 presented
    exact calm n waits
  · unfold State.eligible
    dsimp only
    rw [none, Bool.and_false, Bool.false_and]

theorem State.restsAt.asks_not {s : State} {j : StackNo} (rests : s.restsAt j) : (s.presented j || s.eligible j) = false := by
  refine State.asks_not (fun n waits => ?_) rests.2.2
  rcases rests.1 with is | is <;> rw [is] at waits <;> cases waits

theorem State.grant_of_none {s : State} (none : ∀ j, (s.presented j || s.eligible j) = false) : s.grant = s := by
  unfold State.grant
  cases chosen : s.grantee with
  | none => rfl
  | some k =>
    have asks := (s.grantee_spec.1 k chosen).1
    rw [none k] at asks
    cases asks

/-- A stack that may run asks for no grant, unless by a pending GO. -/
theorem State.mayRun.asks_not {s : State} {k : StackNo} (may : s.mayRun k) (none : (s.cue.recs[k]).pendingGo = false) :
    (s.presented k || s.eligible k) = false := by
  refine Bool.or_eq_false_iff.2 ⟨Bool.eq_false_iff.2 fun presented => ?_, ?_⟩
  · obtain ⟨takeover, holds, -, -⟩ := (s.presented_iff k).1 presented
    rcases may with ⟨show', -⟩ | ⟨-, top⟩
    · have := (isTakeover_iff _).1 takeover
      omega
    · rw [TakeoverUnit.holds_of_onTop top] at holds
      cases holds
  · unfold State.eligible
    dsimp only
    rw [none, Bool.and_false, Bool.false_and]

/-- A stack on top of the preemption stack has the mask for its level. -/
theorem State.preemptionLegal.top {s : State} (h : s.preemptionLegal) {k : StackNo} (top : s.takeover.onTop k = true) :
    PreEntry.level (s.cue.recs[k]).level k ∈ s.takeover.stack ∧ s.takeover.mask = (s.cue.recs[k]).level := by
  obtain ⟨l, last⟩ := (s.takeover.onTop_iff k).1 top
  have there := List.mem_of_getLast? last
  have level := h.level there
  refine ⟨level ▸ there, ?_⟩
  rw [← level]
  unfold TakeoverUnit.mask
  rw [last]
  rfl

theorem State.mayRun.free {s : State} {k : StackNo} (legal : s.preemptionLegal) (may : s.mayRun k) :
    s.takeover.suspends k (s.cue.recs[k]).level = false := by
  unfold TakeoverUnit.suspends
  rcases may with ⟨show', none⟩ | ⟨-, top⟩
  · have : isTakeover (s.cue.recs[k]).level = false := Bool.eq_false_iff.2 fun is => by
      have := (isTakeover_iff _).1 is
      omega
    rw [none, this]
    rfl
  · rw [top, (legal.top top).2]
    simp

/-- No other stack holds the level of stack `k`. -/
def State.levelApart (s : State) (k : StackNo) : Prop :=
  ∀ j, j ≠ k → PreEntry.level (s.cue.recs[k]).level j ∉ s.takeover.stack

theorem State.mayRun.levelApart {s : State} {k : StackNo} (legal : s.preemptionLegal) (may : s.mayRun k) :
    s.levelApart k := by
  intro j other there
  rcases may with ⟨show', none⟩ | ⟨-, top⟩
  · have := s.takeover.rank_le_mask legal.1 there
    have := (isTakeover_iff _).1 (legal.2.1 _ j there).1
    omega
  · exact other (legal.unique there (legal.top top).1)

/-! ### The turn of one stack spares the others -/

/-- What the turn of another stack leaves of stack `k`: its record but for a chained GO, every level, and on the
preemption stack no entry that was not there. -/
structure State.Spares (k : StackNo) (s t : State) : Prop where
  own : ∃ c, t.cue.recs[k] = { s.cue.recs[k] with chainedGo := c }
  levels : ∀ j : StackNo, (t.cue.recs[j]).level = (s.cue.recs[j]).level
  entries : ∀ e ∈ t.takeover.stack, e ∈ s.takeover.stack
  ref : t.ref = s.ref

theorem State.Spares.of_same {k : StackNo} {s t : State} (cue : t.cue = s.cue) (takeover : t.takeover.stack = s.takeover.stack)
    (ref : t.ref = s.ref) : State.Spares k s t :=
  ⟨⟨(s.cue.recs[k]).chainedGo, by rw [cue]⟩, fun j => by rw [cue], fun e there => takeover ▸ there, ref⟩

theorem State.Spares.refl (k : StackNo) (s : State) : State.Spares k s s := .of_same rfl rfl rfl

theorem State.Spares.trans {k : StackNo} {s t u : State} (a : State.Spares k s t) (b : State.Spares k t u) :
    State.Spares k s u := by
  obtain ⟨c, first⟩ := a.own
  obtain ⟨d, second⟩ := b.own
  refine ⟨⟨d, ?_⟩, fun j => (b.levels j).trans (a.levels j), fun e there => a.entries e (b.entries e there),
    b.ref.trans a.ref⟩
  rw [second, first]

theorem State.Spares.raised {k : StackNo} {s t : State} (a : State.Spares k s t) (d : PortSet) (x : Alert) :
    State.Spares k s (t.raiseTo d x) := a.trans (.of_same rfl rfl rfl)

theorem State.raiseGuardAlert_spares (s : State) (k : StackNo) (items : List GuardedItem) (writer : Writer)
    (kind : WriteKind) : State.Spares k s (s.raiseGuardAlert items writer kind) := by
  unfold State.raiseGuardAlert
  split
  · split
    · exact .raised (.refl k s) _ _
    · exact .refl k s
  · exact .refl k s

theorem State.directWrite_spares (s : State) (k : StackNo) (w : ItemWrite) : State.Spares k s (s.directWrite w) := by
  cases w <;> exact .of_same rfl rfl rfl

theorem State.directWrites_spares (k : StackNo) (l : List ItemWrite) (s : State) :
    State.Spares k s (l.foldl State.directWrite s) := by
  induction l generalizing s with
  | nil => exact .refl k s
  | cons w l ih => exact (s.directWrite_spares k w).trans (ih _)

theorem State.guardWrite_spares {s t : State} {writer : Writer} {ws : List ItemWrite} {deferred : Bool} (k : StackNo)
    (h : s.guardWrite writer ws = .passed t deferred) : State.Spares k s t := by
  obtain ⟨queue, items, kind, -, -, -, rfl⟩ := State.guardWrite_passed h
  refine State.Spares.trans ?_ ((State.directWrites_spares k _ _).trans (State.raiseGuardAlert_spares _ k _ _ _))
  exact .of_same rfl rfl rfl

theorem State.modStack_spares (s : State) {j k : StackNo} (other : j ≠ k) {f : StackRec → StackRec}
    (level : ∀ r, (f r).level = r.level) : State.Spares k s (s.modStack j f) := by
  refine ⟨⟨(s.cue.recs[k]).chainedGo, ?_⟩, s.modStack_levels (level _), fun e there => there, rfl⟩
  rw [State.modStack_at, if_neg other]

theorem State.chains_spares (s : State) (j k : StackNo) (c : StackRec → Bool) :
    State.Spares k s (s.modStack j fun r => { r with chainedGo := c r }) := by
  refine ⟨?_, s.modStack_levels rfl, fun e there => there, rfl⟩
  rw [State.modStack_at]
  split
  · rename_i same
    rw [same]
    exact ⟨_, rfl⟩
  · exact ⟨(s.cue.recs[k]).chainedGo, rfl⟩

section
variable {s : State} {j k : StackNo} {cue place : Nat} (other : j ≠ k)
include other

theorem State.skipAction_spares (reason : SkipReason) : State.Spares k s (s.skipAction j cue place reason) := by
  refine .raised ?_ _ _
  exact s.modStack_spares other fun _ => rfl

theorem State.actionWrite_spares (busy : Bool) (ws : List ItemWrite) :
    State.Spares k s (s.actionWrite j cue place busy ws) := by
  unfold State.actionWrite
  split
  · exact State.skipAction_spares other _
  · split
    · exact State.skipAction_spares other _
    · exact State.skipAction_spares other _
    · exact State.guardWrite_spares k ‹_›

theorem State.overrideWrite_spares (es : List Override) : State.Spares k s (s.overrideWrite j cue place es) := by
  unfold State.overrideWrite
  dsimp only
  split
  · exact State.skipAction_spares other _
  · split
    · exact .raised (State.skipAction_spares other _) _ _
    · refine State.Spares.trans ?_ (State.raiseGuardAlert_spares _ k _ _ _)
      exact .of_same rfl rfl rfl

theorem State.act_spares (a : Action) : State.Spares k s (s.act j cue place a) := by
  unfold State.act
  split
  · exact State.skipAction_spares other _
  · unfold State.actEffect
    cases a with
    | level role first last v d =>
      dsimp only
      split
      · exact State.overrideWrite_spares other _
      · exact State.actionWrite_spares other _ _
    | window role w v =>
      dsimp only
      split
      · exact State.overrideWrite_spares other _
      · exact State.actionWrite_spares other _ _
    | master g v => exact State.actionWrite_spares other _ _
    | take n => exact .of_same rfl rfl rfl
    | copy =>
      dsimp only
      split
      · exact State.skipAction_spares other _
      · exact .of_same rfl rfl rfl
    | goStack i => exact s.chains_spares i k _

theorem State.actAll_spares (l : List Action) : State.Spares k s (s.actAll j cue place l) := by
  induction l generalizing s place with
  | nil => exact .refl k s
  | cons a l ih => exact (State.act_spares other a).trans ih

theorem State.release_spares (l fade : Nat) : State.Spares k s (s.release l j fade) := by
  refine .raised ?_ _ _
  refine State.Spares.trans ?_ (State.modStack_spares _ other fun _ => rfl)
  exact ⟨⟨(s.cue.recs[k]).chainedGo, rfl⟩, fun _ => rfl, fun e there => (List.mem_filter.1 there).1, rfl⟩

/-- A firing of a stack spares the stacks that do not hold its level. -/
theorem State.fire_spares (again : Option Nat) (apart : PreEntry.level (s.cue.recs[j]).level k ∉ s.takeover.stack) :
    State.Spares k s (s.fire j again) := by
  cases stands : (s.cue.recs[j]).position.bind fun n => s.cue.find j n with
  | none =>
    rw [State.fire_of_none stands]
    exact .refl k s
  | some q =>
    have acted := State.actAll_spares (s := s) (cue := q.number) (place := 1) other q.body.actions
    rw [State.fire_of_some stands]
    generalize s.actAll j q.number 1 q.body.actions = u at acted
    have advances : State.Spares k u (u.advanced j q) := by
      refine State.Spares.trans (t := u.loopAlerted j q) ?_ (State.modStack_spares _ other fun r => ?_)
      · rcases u.loopAlerted_eq j q with same | ⟨d, a, raised⟩
        · rw [same]; exact .refl k u
        · rw [raised]; exact .of_same rfl rfl rfl
      · unfold StackRec.arrive
        split <;> rfl
    split
    · refine acted.trans ?_
      rw [State.lastFiring_eq]
      split
      · cases holder : (u.advanced j q).takeover.holder (u.cue.recs[j]).level with
        | none => exact advances
        | some i =>
          have elsewhere : i ≠ k := fun same => by
            subst same
            refine apart (acted.entries _ ?_)
            rw [← acted.levels j]
            exact advances.entries _ (TakeoverUnit.mem_of_holder holder)
          exact advances.trans (State.release_spares elsewhere _ _)
      · exact advances
    · exact acted.trans (State.modStack_spares _ other fun _ => rfl)

/-- The turn of a stack spares the stacks that do not hold its level. -/
theorem State.stackActs_spares (apart : PreEntry.level (s.cue.recs[j]).level k ∉ s.takeover.stack) :
    State.Spares k s (s.stackActs j) := by
  unfold State.stackActs
  split
  · exact .refl k s
  · exact .refl k s
  · exact State.fire_spares other _ apart
  · exact s.modStack_spares other fun _ => rfl
  · exact State.fire_spares other _ apart
  · exact s.modStack_spares other fun _ => rfl
  · rename_i f g _
    unfold State.decideArm
    dsimp only
    split
    · exact State.fire_spares other _ apart
    · split
      · refine State.Spares.trans (State.Spares.raised (.refl k s) _ _) (State.fire_spares other _ ?_)
        exact apart
      · split
        · refine .raised ?_ _ _
          exact s.modStack_spares other fun _ => rfl
        · exact .refl k s

end

end Sys2Proof.Machine
end

section
/-! PROOF. The application step and the tasks of a MARK at which at most one stack acts. -/

namespace Sys2Proof.Machine

/-! ### The application step (R165) -/

/-- The banks and masters after the writes of some entries. -/
def State.applied (s : State) (l : List Deferred) : State := l.foldl (fun u d => u.writeItem d.write) s

/-- The entries of the queue that are releasable, with their causes. -/
def State.releases (s : State) : List (Deferred × DeferCause) :=
  s.tally.queue.filterMap fun d => (s.releasable d).map fun c => (d, c)

theorem State.releases_entries (s : State) :
    s.releases.map Prod.fst = s.tally.queue.filter fun d => (s.releasable d).isSome := by
  unfold State.releases
  rw [List.map_filterMap]
  induction s.tally.queue with
  | nil => rfl
  | cons d l ih =>
    rw [List.filterMap_cons, List.filter_cons]
    cases s.releasable d with
    | none => exact ih
    | some c => exact congrArg (d :: ·) ih

/-- The application step but for its alerts. -/
def State.appliedQueue (s : State) : State :=
  { s.applied (s.tally.queue.filter fun d => (s.releasable d).isSome) with
    tally := { s.tally with queue := s.tally.queue.filter fun d => (s.releasable d).isNone } }

theorem State.applied_shape (l : List Deferred) (s : State) : ∃ scene level, s.applied l = { s with scene, level } := by
  induction l generalizing s with
  | nil => exact ⟨_, _, rfl⟩
  | cons d l ih =>
    obtain ⟨scene, level, rest⟩ := ih (s.writeItem d.write)
    have one : ∃ scene level, s.writeItem d.write = { s with scene, level } := by
      cases d.write <;> exact ⟨_, _, rfl⟩
    obtain ⟨m, e, one⟩ := one
    exact ⟨scene, level, by rw [show s.applied (d :: l) = (s.writeItem d.write).applied l from rfl, rest, one]⟩

theorem State.applied_cue (l : List Deferred) (s : State) (c : CueUnit) :
    ({ s with cue := c } : State).applied l = { s.applied l with cue := c } := by
  induction l generalizing s with
  | nil => rfl
  | cons d l ih =>
    have one : ({ s with cue := c } : State).writeItem d.write = { s.writeItem d.write with cue := c } := by
      cases d.write <;> rfl
    rw [show ({ s with cue := c } : State).applied (d :: l) = (({ s with cue := c } : State).writeItem d.write).applied l
      from rfl, one, ih]
    rfl

theorem State.raiseTogether_cueOf (l : List (PortSet × Alert)) (s : State) (c : CueUnit) :
    ({ s with cue := c } : State).raiseTogether l = { s.raiseTogether l with cue := c } := by
  have fold (l : List (PortSet × Alert)) (s : State) :
      l.foldl (fun s x => s.raiseTo x.1 x.2) ({ s with cue := c } : State) =
        { l.foldl (fun s x => s.raiseTo x.1 x.2) s with cue := c } := by
    induction l generalizing s with
    | nil => rfl
    | cons x l ih => exact ih (s.raiseTo x.1 x.2)
  unfold State.raiseTogether
  split
  · rfl
  · rfl
  · exact fold _ { s with choices := s.choices + 1 }

theorem State.applyDeferred_eq (s : State) :
    s.applyDeferred = s.appliedQueue.raiseTogether (s.deferAlerts s.releases) := by
  have writes : s.releases.foldl (fun s x => s.writeItem x.1.write) s =
      s.applied (s.tally.queue.filter fun d => (s.releasable d).isSome) := by
    rw [← State.releases_entries]
    exact (List.foldl_map (f := Prod.fst) (g := fun (u : State) (d : Deferred) => u.writeItem d.write)).symm
  have tally : (s.applied (s.tally.queue.filter fun d => (s.releasable d).isSome)).tally = s.tally := by
    obtain ⟨scene, level, is⟩ := State.applied_shape (s.tally.queue.filter fun d => (s.releasable d).isSome) s
    rw [is]
  have queue (w : State) (is : w = s.applied (s.tally.queue.filter fun d => (s.releasable d).isSome)) :
      ({ w with tally := { w.tally with queue := s.tally.queue.filter fun d => (s.releasable d).isNone } } : State) =
        s.appliedQueue := by
    subst is
    unfold State.appliedQueue
    rw [tally]
  exact congrArg (fun u : State => u.raiseTogether (s.deferAlerts s.releases)) (queue _ writes)

/-- The application step does not look at the stacks. -/
theorem State.applyDeferred_cueOf (s : State) (c : CueUnit) :
    ({ s with cue := c } : State).applyDeferred = { s.applyDeferred with cue := c } := by
  have queue : ({ s with cue := c } : State).appliedQueue = { s.appliedQueue with cue := c } := by
    unfold State.appliedQueue
    rw [show ({ s with cue := c } : State).tally.queue.filter (fun d => (({ s with cue := c } : State).releasable d).isSome) =
      s.tally.queue.filter (fun d => (s.releasable d).isSome) from rfl, State.applied_cue]
    rfl
  rw [State.applyDeferred_eq, State.applyDeferred_eq, queue, State.raiseTogether_cueOf]
  rfl

theorem State.applyDeferred_modStack (s : State) (k : StackNo) (f : StackRec → StackRec) :
    (s.modStack k f).applyDeferred = s.applyDeferred.modStack k f := by
  have cue := s.applyDeferred_keeps.1
  unfold State.modStack
  rw [State.applyDeferred_cueOf, cue]

/-! ### The tasks of a MARK at which at most one stack acts (R97) -/

/-- Every other stack than `k` is IDLE or at END. -/
def State.stilled (s : State) (k : StackNo) : Prop :=
  ∀ j, j ≠ k → (s.cue.recs[j]).state = .idle ∨ (s.cue.recs[j]).state = .ended

theorem State.stackActs_of_still {s : State} {j : StackNo}
    (still : (s.cue.recs[j]).state = .idle ∨ (s.cue.recs[j]).state = .ended) : s.stackActs j = s := by
  unfold State.stackActs
  rcases still with is | is <;> rw [is]

theorem foldl_markTask_still {s : State} (l : List MarkTask) (applies : .apply ∉ l)
    (still : ∀ j, .stack j ∈ l → (s.cue.recs[j]).state = .idle ∨ (s.cue.recs[j]).state = .ended) :
    l.foldl State.markTask s = s := by
  induction l with
  | nil => rfl
  | cons x l ih =>
    have first : s.markTask x = s := by
      cases x with
      | stack j => exact State.stackActs_of_still (still j List.mem_cons_self)
      | apply => exact absurd List.mem_cons_self applies
    rw [List.foldl_cons, first]
    exact ih (fun there => applies (List.mem_cons_of_mem _ there)) fun j there => still j (List.mem_cons_of_mem _ there)

/-- The tasks of a MARK at which every stack is IDLE or at END are the application step. -/
theorem foldl_markTasks_rest {s : State}
    (still : ∀ j : StackNo, (s.cue.recs[j]).state = .idle ∨ (s.cue.recs[j]).state = .ended) (order : List Nat)
    (free : StackNo → Bool) : (arrange order (markTasks free)).foldl State.markTask s = s.applyDeferred := by
  have perm := arrange_perm order (markTasks free)
  obtain ⟨before, after, split⟩ := List.append_of_mem (perm.mem_iff.2 (show MarkTask.apply ∈ markTasks free by simp [markTasks]))
  have once := perm.nodup_iff.2 (markTasks_nodup free)
  rw [split] at once ⊢
  obtain ⟨-, tail, cross⟩ := List.nodup_append.1 once
  rw [List.foldl_append, List.foldl_cons,
    foldl_markTask_still before (fun there => cross _ there _ List.mem_cons_self rfl) fun j _ => still j]
  refine foldl_markTask_still after (List.nodup_cons.1 tail).1 fun j _ => ?_
  change (s.applyDeferred.cue.recs[j]).state = .idle ∨ (s.applyDeferred.cue.recs[j]).state = .ended
  rw [s.applyDeferred_keeps.1]
  exact still j

/-- The turn of stack `k` leaves the other stacks IDLE or at END. -/
theorem State.stilled.acts {s : State} {k : StackNo} (still : s.stilled k) (apart : s.levelApart k) :
    (s.stackActs k).stilled k := by
  intro j other
  obtain ⟨c, own⟩ := (State.stackActs_spares (Ne.symm other) (apart j other)).own
  rw [own]
  exact still j other

theorem State.stilled.applied {s : State} {k : StackNo} (still : s.stilled k) : s.applyDeferred.stilled k := by
  intro j other
  rw [s.applyDeferred_keeps.1]
  exact still j other

/-- The tasks of a MARK at which every other stack than `k` is IDLE or at END: the application step, and the turn of
stack `k` where it is free, in either order (R98). -/
theorem foldl_markTask_alone {s : State} {k : StackNo} {l : List MarkTask} (once : l.Nodup) (applies : .apply ∈ l)
    (still : s.stilled k) (apart : s.levelApart k) :
    (.stack k ∉ l → l.foldl State.markTask s = s.applyDeferred) ∧
    (.stack k ∈ l → l.foldl State.markTask s = (s.stackActs k).applyDeferred ∨
      l.foldl State.markTask s = s.applyDeferred.stackActs k) := by
  obtain ⟨before, after, rfl⟩ := List.append_of_mem applies
  obtain ⟨front, tail, cross⟩ := List.nodup_append.1 once
  have apartFront : MarkTask.apply ∉ before := fun there => cross _ there _ List.mem_cons_self rfl
  have apartBehind : MarkTask.apply ∉ after := (List.nodup_cons.1 tail).1
  rw [List.foldl_append, List.foldl_cons]
  change (_ → after.foldl State.markTask (before.foldl State.markTask s).applyDeferred = _) ∧
    (_ → after.foldl State.markTask (before.foldl State.markTask s).applyDeferred = _ ∨
      after.foldl State.markTask (before.foldl State.markTask s).applyDeferred = _)
  have rests {u : State} {part : List MarkTask} (calm : u.stilled k) (none : MarkTask.apply ∉ part)
      (other : MarkTask.stack k ∉ part) : part.foldl State.markTask u = u :=
    foldl_markTask_still part none fun j there => calm j fun same => other (same ▸ there)
  have acts {u : State} {part : List MarkTask} (calm : u.stilled k) (apart : u.levelApart k) (unique : part.Nodup)
      (none : MarkTask.apply ∉ part) (there : MarkTask.stack k ∈ part) :
      part.foldl State.markTask u = u.stackActs k := by
    obtain ⟨first, last, rfl⟩ := List.append_of_mem there
    obtain ⟨-, tail, cross⟩ := List.nodup_append.1 unique
    have out : MarkTask.stack k ∉ first := fun there => cross _ there _ List.mem_cons_self rfl
    rw [List.foldl_append, List.foldl_cons, rests calm (fun there => none (List.mem_append_left _ there)) out]
    exact rests (calm.acts apart) (fun there => none (List.mem_append_right _ (List.mem_cons_of_mem _ there)))
      (List.nodup_cons.1 tail).1
  have apartLater : s.applyDeferred.levelApart k := by
    unfold State.levelApart
    rw [s.applyDeferred_keeps.1, s.applyDeferred_keeps.2]
    exact apart
  refine ⟨fun free => ?_, fun there => ?_⟩
  · rw [rests still apartFront fun at' => free (List.mem_append_left _ at')]
    exact rests still.applied apartBehind fun at' => free (List.mem_append_right _ (List.mem_cons_of_mem _ at'))
  · rcases List.mem_append.1 there with first | last
    · have out : MarkTask.stack k ∉ after := fun at' => cross _ first _ (List.mem_cons_of_mem _ at') rfl
      rw [acts still apart front apartFront first]
      exact .inl (rests (still.acts apart).applied apartBehind out)
    · have last := (List.mem_cons.1 last).resolve_left fun same => nomatch same
      have out : MarkTask.stack k ∉ before := fun at' => cross _ at' _ (List.mem_cons_of_mem _ last) rfl
      rw [rests still apartFront out]
      exact .inr (acts still.applied apartLater (List.nodup_cons.1 tail).2 apartBehind last)

/-- A MARK at which every other stack than `k` is IDLE or at END after the chained GOs and the grant. -/
theorem State.markSteps_alone {s g : State} {k : StackNo} (order : List Nat) (granted : s.markStart.granted = g)
    (still : g.stilled k) (apart : g.levelApart k) :
    (s.markStart.free k = false → s.markSteps order = g.applyDeferred) ∧
    (s.markStart.free k = true → s.markSteps order = (g.stackActs k).applyDeferred ∨
      s.markSteps order = g.applyDeferred.stackActs k) := by
  have perm := arrange_perm order (markTasks s.markStart.free)
  have applies : .apply ∈ arrange order (markTasks s.markStart.free) := perm.mem_iff.2 (by simp [markTasks])
  have tasks := foldl_markTask_alone (perm.nodup_iff.2 (markTasks_nodup _)) applies still apart
  rw [perm.mem_iff, mem_markTasks] at tasks
  rw [State.markSteps_eq, granted]
  exact ⟨fun held => tasks.1 (ne_true_of_eq_false held), tasks.2⟩

end Sys2Proof.Machine
end

section
/-! PROOF. The deferred writes at a MARK at which every stack rests, and what their ports are told. -/

namespace Sys2Proof.Machine

/-! ### The MARK (R97, R165) -/

theorem exec_markWhen {s : State} {order : List Nat} {happens : Bool} (due : s.ref.markDue.isSome = true)
    (is : happens = true) : (s.markWhen order happens).done = .next (s.issueMark order).startNotices := by
  unfold State.markWhen
  rw [due, is]
  rfl

/-- A MARK at which every stack rests is the application step. -/
theorem State.markSteps_rests {s : State} (rests : ∀ j : StackNo, s.restsAt j) (order : List Nat) :
    s.markStart.granted = s ∧ s.markSteps order = s.applyDeferred := by
  have granted : s.markStart.granted = s := by
    rw [State.markStart_granted, State.takeAllChained_none fun j => (rests j).2.1,
      State.grant_of_none fun j => (rests j).asks_not]
  refine ⟨granted, ?_⟩
  rw [State.markSteps_eq, granted]
  exact foldl_markTasks_rest (fun j => (rests j).1) order _

/-! ### The alerts of the application step -/

/-- Of a list picked by a function from distinct keys, the elements of one key are what the function picks for it. -/
theorem filter_filterMap_key {α β : Type} [DecidableEq α] {f : α → Option β} {P : β → Bool} {q : α} {l : List α}
    (once : l.Nodup) (there : q ∈ l) (key : ∀ p x, f p = some x → P x = decide (p = q)) :
    (l.filterMap f).filter P = (f q).toList := by
  have out : ∀ l : List α, q ∉ l → (l.filterMap f).filter P = [] := by
    intro l absent
    refine List.filter_eq_nil_iff.2 fun x among => ?_
    obtain ⟨p, at', is⟩ := List.mem_filterMap.1 among
    rw [key p x is, decide_eq_true_eq]
    exact fun same => absent (same ▸ at')
  obtain ⟨before, after, rfl⟩ := List.append_of_mem there
  obtain ⟨-, tail, cross⟩ := List.nodup_append.1 once
  rw [List.filterMap_append, List.filter_append, out before fun at' => cross _ at' _ List.mem_cons_self rfl,
    List.filterMap_cons, List.nil_append]
  cases picked : f q with
  | none => exact out after (List.nodup_cons.1 tail).1
  | some x =>
    dsimp only
    rw [List.filter_cons, key q x picked, decide_eq_true rfl, if_pos rfl, out after (List.nodup_cons.1 tail).1]
    rfl

/-- The alert for the entries applied for a port, or for no port. -/
def State.deferTold (s : State) (who : Option Port) : Option Alert :=
  deferAlert (s.releases.filter fun x => s.originPort x.1 == who) s.ref.counter

theorem State.deferAlert_kind {l : List (Deferred × DeferCause)} {now : Frame} {a : Alert} (h : deferAlert l now = some a) :
    a.kind = 8 := by
  obtain ⟨x, -, rfl⟩ := Option.map_eq_some_iff.1 h
  rfl

theorem State.routingSet_defer {s : State} {l : List (Deferred × DeferCause)} {now : Frame} {a : Alert}
    (h : deferAlert l now = some a) : s.routingSet a = s.ports.routing[(8 : Fin 16)] := by
  obtain ⟨x, -, rfl⟩ := Option.map_eq_some_iff.1 h
  rfl

theorem State.deferAlerts_kind (s : State) : ∀ x ∈ s.deferAlerts s.releases, x.2.kind = 8 := by
  intro x there
  rcases List.mem_append.1 there with own | routed
  · obtain ⟨p, -, is⟩ := List.mem_filterMap.1 own
    obtain ⟨a, told, rfl⟩ := Option.map_eq_some_iff.1 is
    exact State.deferAlert_kind told
  · obtain ⟨a, told, rfl⟩ := Option.map_eq_some_iff.1 (Option.mem_toList.1 routed)
    exact State.deferAlert_kind told

/-- What a port is told of the application step: its own alert, and the one of the routing set where that names it. -/
theorem State.raisedTo_deferAlerts (s : State) (q : Port) : (raisedTo (s.deferAlerts s.releases) q).map Prod.snd =
    (s.deferTold (some q)).toList ++
      if (s.ports.routing[(8 : Fin 16)]).getLsbD q.val = true then (s.deferTold none).toList else [] := by
  unfold raisedTo State.deferAlerts
  rw [List.filter_append, List.map_append]
  congr 1
  · rw [filter_filterMap_key (q := q) (List.nodup_finRange 4) (List.mem_finRange q) fun p x is => ?_]
    · unfold State.deferTold
      cases deferAlert (s.releases.filter fun x => s.originPort x.1 == some q) s.ref.counter <;> rfl
    · obtain ⟨a, -, rfl⟩ := Option.map_eq_some_iff.1 is
      rw [Bool.eq_iff_iff, decide_eq_true_eq]
      exact onlyPort_iff p q
  · unfold State.deferTold
    cases told : deferAlert (s.releases.filter fun x => s.originPort x.1 == none) s.ref.counter with
    | none => split <;> rfl
    | some a =>
      dsimp only [Option.map_some, Option.toList_some]
      rw [List.filter_singleton, State.routingSet_defer told]
      cases (s.ports.routing[(8 : Fin 16)]).getLsbD q.val <;> rfl

/-- The entries applied for a port, or for no port. -/
def State.appliedFor (s : State) (who : Option Port) : List Deferred :=
  s.tally.queue.filter fun d => (s.releasable d).isSome && decide (s.originPort d = who)

theorem State.appliedFor_eq (s : State) (who : Option Port) :
    (s.releases.filter fun x => s.originPort x.1 == who).map Prod.fst = s.appliedFor who := by
  have order : (fun d => (s.releasable d).isSome && decide (s.originPort d = who)) =
      fun d => decide (s.originPort d = who) && (s.releasable d).isSome := funext fun d => Bool.and_comm _ _
  have same : (fun x : Deferred × DeferCause => s.originPort x.1 == who) =
      (fun d => decide (s.originPort d = who)) ∘ Prod.fst := funext fun x => by
    rw [Bool.eq_iff_iff]
    simp
  unfold State.appliedFor
  rw [order, ← List.filter_filter, ← s.releases_entries, same, List.filter_map]

/-- The guard mode of an item, in shot or not. -/
def State.guardMode (s : State) : GuardedItem → Guard
  | .window w => s.tally.windowGuards[w]
  | .channel n => s.tally.groupGuards[(s.level.patch[n]).group]
  | .master g => s.tally.groupGuards[g]

/-- The cause for which the shot and the guard of an item release an entry. -/
def State.shotCause (s : State) (i : GuardedItem) : Option DeferCause :=
  match (s.shotGuard i).isSome, decide (s.guardMode i = .defer) with
  | true, true => none
  | true, false => some .guard
  | false, true => some .shot
  | false, false => some (if Config.deferCauseShot s.ref.counter then .shot else .guard)

theorem State.releasable_eq (s : State) (d : Deferred) : s.releasable d =
    d.write.bank.elim (s.shotCause d.write.item) fun bank =>
      if bank = s.scene.program then s.shotCause d.write.item
      else if s.scene.inFlight then none else some .preset := by
  unfold State.releasable State.shotCause State.guardMode
  cases d.write.bank <;> rfl

theorem State.shotCause_some {s : State} {i : GuardedItem} {c : DeferCause} (h : s.shotCause i = some c) :
    c = .shot ∧ s.shotGuard i = none ∨ c = .guard ∧ s.guardMode i ≠ .defer := by
  unfold State.shotCause at h
  split at h
  · cases h
  · rename_i other
    exact .inr ⟨(Option.some.inj h).symm, of_decide_eq_false other⟩
  · rename_i out _
    exact .inl ⟨(Option.some.inj h).symm, by simpa using out⟩
  · rename_i out other
    have cause := Option.some.inj h
    split at cause
    · exact .inl ⟨cause.symm, by simpa using out⟩
    · exact .inr ⟨cause.symm, of_decide_eq_false other⟩

/-- The cause of an applied entry (R165): its preset bank, or that its item is out of shot, or its guard another. -/
theorem State.releasable_cause {s : State} {d : Deferred} {c : DeferCause} (h : s.releasable d = some c) :
    (d.write.bank ≠ none ∧ d.write.bank ≠ some s.scene.program → c = .preset) ∧
    (¬ (d.write.bank ≠ none ∧ d.write.bank ≠ some s.scene.program) →
      c = .shot ∧ s.shotGuard d.write.item = none ∨ c = .guard ∧ s.guardMode d.write.item ≠ .defer) := by
  rw [State.releasable_eq] at h
  cases bank : d.write.bank with
  | none =>
    rw [bank] at h
    exact ⟨fun both => absurd rfl both.1, fun _ => State.shotCause_some h⟩
  | some name =>
    rw [bank] at h
    change (if name = s.scene.program then _ else _ : Option DeferCause) = some c at h
    split at h
    · rename_i program
      exact ⟨fun both => absurd (congrArg some program) both.2, fun _ => State.shotCause_some h⟩
    · rename_i other
      refine ⟨fun _ => ?_, fun not => absurd ⟨Option.some_ne_none name, fun same => other (Option.some.inj same)⟩ not⟩
      split at h
      · cases h
      · exact (Option.some.inj h).symm

theorem State.deferTold_none {s : State} {who : Option Port} (nothing : s.appliedFor who = []) : s.deferTold who = none := by
  rw [← State.appliedFor_eq, List.map_eq_nil_iff] at nothing
  unfold State.deferTold deferAlert
  rw [nothing]
  rfl

theorem State.deferTold_some {s : State} {who : Option Port} (entries : s.appliedFor who ≠ []) :
    ∃ d c, (s.appliedFor who).getLast? = some d ∧ s.releasable d = some c ∧ s.deferTold who =
      some (.deferApplied (s.appliedFor who).length d.write.target d.write.bank c s.ref.counter) := by
  rw [← State.appliedFor_eq, Ne, List.map_eq_nil_iff] at entries
  obtain ⟨x, last⟩ : ∃ x, (s.releases.filter fun x => s.originPort x.1 == who).getLast? = some x :=
    ⟨_, List.getLast?_eq_some_getLast entries⟩
  obtain ⟨d, there, is⟩ := List.mem_filterMap.1 (List.mem_filter.1 (List.mem_of_getLast? last)).1
  obtain ⟨c, releases, rfl⟩ := Option.map_eq_some_iff.1 is
  refine ⟨d, c, ?_, releases, ?_⟩
  · rw [← State.appliedFor_eq, List.getLast?_map, last]
    rfl
  · unfold State.deferTold deferAlert
    rw [last, ← State.appliedFor_eq, List.length_map]
    rfl

/-- What the application step leaves in a port's alerts of kind 8. -/
theorem State.applyDeferred_received (s : State) (q : Port) : (s.ports.port[q]).Received (s.applyDeferred.ports.port[q]) 8
    (raisedTo (s.deferAlerts s.releases) q) := by
  have told := s.appliedQueue.raiseTogether_alerts (s.deferAlerts s.releases) q s.deferAlerts_kind
  have ports : s.appliedQueue.ports = s.ports := by
    unfold State.appliedQueue
    obtain ⟨scene, level, is⟩ := State.applied_shape (s.tally.queue.filter fun d => (s.releasable d).isSome) s
    rw [is]
  rw [ports] at told
  rw [State.applyDeferred_eq]
  exact told

theorem State.applyDeferred_alerts (s : State) (q : Port) {as : List Alert}
    (told : (raisedTo (s.deferAlerts s.releases) q).map Prod.snd = as) :
    (as = [] → (s.applyDeferred.ports.port[q]).alerts[(8 : Fin 22)] = (s.ports.port[q]).alerts[(8 : Fin 22)]) ∧
    (as ≠ [] → ∃ a ∈ as, (s.applyDeferred.ports.port[q]).alerts[(8 : Fin 22)] =
      some ⟨a, min 255 ((((s.ports.port[q]).alerts[(8 : Fin 22)]).map AlertEntry.count).getD 0 + as.length)⟩) := by
  obtain ⟨nothing, something⟩ := s.applyDeferred_received q
  subst told
  refine ⟨fun empty => nothing (List.map_eq_nil_iff.1 empty), fun some' => ?_⟩
  obtain ⟨e, there, is⟩ := something fun empty => some' (by rw [empty]; rfl)
  exact ⟨e.2, List.mem_map_of_mem there, by rw [List.length_map]; exact is⟩

theorem State.applyDeferred_other (s : State) (q : Port) {k : Fin 22} (other : k ≠ 8) :
    (s.applyDeferred.ports.port[q]).alerts[k] = (s.ports.port[q]).alerts[k] := by
  have ports : s.appliedQueue.ports = s.ports := by
    unfold State.appliedQueue
    obtain ⟨scene, level, is⟩ := State.applied_shape (s.tally.queue.filter fun d => (s.releasable d).isSome) s
    rw [is]
  rw [State.applyDeferred_eq, State.raiseTogether_other _ _ q fun x there => ?_, ports]
  rw [s.deferAlerts_kind x there]
  exact other.symm

/-- Settles O30: a MARK at which every stack rests is the application step, and each port is told by its two alerts. -/
theorem deferredWritesAreApplied : Obligations.DeferredWritesAreApplied := by
  intro s order due rests ready appliedFor cause tells
  obtain ⟨granted, steps⟩ := State.markSteps_rests rests order
  have happens : s.queueReady = true := by
    unfold State.queueReady
    rw [granted]
    obtain ⟨d, there, releases⟩ := ready
    exact List.any_eq_true.2 ⟨d, there, releases⟩
  obtain ⟨scene, level, shape⟩ := State.applied_shape (s.tally.queue.filter fun d => (s.releasable d).isSome) s
  have queue : s.appliedQueue = { s with
      scene := scene, level := level
      tally := { s.tally with queue := s.tally.queue.filter fun d => (s.releasable d).isNone } } := by
    unfold State.appliedQueue
    rw [shape]
  have whole : s.issueMark order =
      (s.appliedQueue.raiseTogether (s.deferAlerts s.releases)).modRef fun r => { r with markDue := none } := by
    unfold State.issueMark
    rw [steps, State.applyDeferred_eq]
  have kept {α : Type} (field : State → α) (still : ∀ u ports choices, field { u with ports, choices } = field u)
      (clock : ∀ u : State, field (u.modRef fun r => { r with markDue := none }).startNotices = field u) :
      field (s.issueMark order).startNotices = field s.appliedQueue := by
    obtain ⟨ports, choices, raised⟩ := s.appliedQueue.raiseTogether_shape (s.deferAlerts s.releases)
    rw [whole, clock, raised, still]
  refine ⟨_, exec_markWhen due happens, ?_, ?_, ?_, ?_, ?_, ?_, ?_, ?_, ?_, ?_, fun q => ?_⟩
  · rw [kept State.tally (fun _ _ _ => rfl) fun _ => rfl, queue]
  · rw [kept State.scene (fun _ _ _ => rfl) fun _ => rfl]
    rfl
  · rw [kept State.level (fun _ _ _ => rfl) fun _ => rfl]
    rfl
  · rw [kept State.cue (fun _ _ _ => rfl) fun _ => rfl, queue]
  · rw [kept State.takeover (fun _ _ _ => rfl) fun _ => rfl, queue]
  · rw [kept State.wall (fun _ _ _ => rfl) fun _ => rfl, queue]
  · rw [kept State.lines (fun _ _ _ => rfl) fun _ => rfl, queue]
  · rw [kept State.access (fun _ _ _ => rfl) fun _ => rfl, queue]
  · rw [kept State.image (fun _ _ _ => rfl) fun _ => rfl, queue]
  · rw [State.startNotices_ref, State.issueMark_ref]
  · intro old receives routed
    have alerts (k : Fin 22) : ((s.issueMark order).startNotices.ports.port[q]).alerts[k] =
        (s.applyDeferred.ports.port[q]).alerts[k] := by
      rw [State.startNotices_alerts]
      unfold State.issueMark
      rw [steps]
      rfl
    have causeOf {d : Deferred} {c : DeferCause} (releases : s.releasable d = some c) : cause d.write c := by
      obtain ⟨preset, rest⟩ := State.releasable_cause releases
      change if _ then _ else _
      split
      · exact preset ‹_›
      · refine (rest ‹_›).imp_right fun guard => ⟨guard.1, ?_⟩
        have mode := guard.2
        cases item : d.write.item <;> rw [item] at mode <;> exact mode
    have told (who : Option Port) (entries : appliedFor who ≠ []) : ∃ a, tells who a ∧ s.deferTold who = some a := by
      obtain ⟨d, c, last, releases, is⟩ := State.deferTold_some (who := who) entries
      exact ⟨_, ⟨d, c, last, causeOf releases, rfl⟩, is⟩
    have silent {who : Option Port} (nothing : appliedFor who = []) : s.deferTold who = none :=
      State.deferTold_none nothing
    have routing : (if (s.ports.routing[(8 : Fin 16)]).getLsbD q.val = true then (s.deferTold none).toList else []) =
        if routed then (s.deferTold none).toList else [] := by
      by_cases bit : (s.ports.routing[(8 : Fin 16)]).getLsbD q.val = true
      · rw [if_pos bit]
        by_cases nothing : appliedFor none = []
        · rw [silent nothing, if_neg fun h : routed => h.2 nothing]
          rfl
        · rw [if_pos (show routed from ⟨bit, nothing⟩)]
      · rw [if_neg bit, if_neg fun h : routed => bit h.1]
    have raised := s.raisedTo_deferAlerts q
    rw [routing] at raised
    refine ⟨fun nothing free => ?_, fun own free => ?_, fun nothing hit => ?_, fun own hit => ?_, fun k other => ?_⟩
    · rw [silent nothing, if_neg free] at raised
      exact (alerts 8).trans ((s.applyDeferred_alerts q raised).1 rfl)
    · obtain ⟨a, tellsOwn, is⟩ := told (some q) own
      rw [is, if_neg free] at raised
      obtain ⟨b, there, received⟩ := (s.applyDeferred_alerts q raised).2 (List.cons_ne_nil _ _)
      rw [List.mem_singleton.1 there] at received
      exact ⟨a, tellsOwn, (alerts 8).trans received⟩
    · obtain ⟨a, tellsNone, is⟩ := told none hit.2
      rw [silent nothing, is, if_pos hit] at raised
      obtain ⟨b, there, received⟩ := (s.applyDeferred_alerts q raised).2 (List.cons_ne_nil _ _)
      rw [List.mem_singleton.1 there] at received
      exact ⟨a, tellsNone, (alerts 8).trans received⟩
    · obtain ⟨a, tellsOwn, is⟩ := told (some q) own
      obtain ⟨b, tellsNone, isNone⟩ := told none hit.2
      rw [is, isNone, if_pos hit] at raised
      obtain ⟨x, there, received⟩ := (s.applyDeferred_alerts q raised).2 (List.cons_ne_nil _ _)
      refine ⟨x, ?_, (alerts 8).trans received⟩
      rcases List.mem_cons.1 there with rfl | there
      · exact .inl tellsOwn
      · rw [List.mem_singleton.1 there]
        exact .inr tellsNone
    · exact (alerts k).trans (s.applyDeferred_other q other)

end Sys2Proof.Machine
end

section
/-! PROOF. A stack at a MARK: the loop markers, the firing of the one stack that acts, and the counts. -/

namespace Sys2Proof.Machine

/-! ### The loop markers (R107) -/

theorem loopStep_none {q : Cue} (marker : q.body.marker = .none) (loop : Option LoopContext) :
    loopStep q loop = (loop, none, none) := by
  unfold loopStep
  rw [marker]

theorem loopStep_starts {q : Cue} (marker : q.body.marker = .loopStart) :
    loopStep q none = (some ⟨q.number, q.body.loopCount⟩, none, none) ∧ ∀ x : LoopContext,
      loopStep q (some x) = (some x, none, if x.startCue = q.number then none else some x.startCue) := by
  unfold loopStep
  rw [marker]
  exact ⟨rfl, fun _ => rfl⟩

theorem loopStep_ends {q : Cue} (marker : q.body.marker = .loopEnd) :
    loopStep q none = (none, none, none) ∧ ∀ x : LoopContext, loopStep q (some x) =
      if x.remaining = 0 then (none, none, none)
      else (some { x with remaining := x.remaining - 1 }, some x.startCue, none) := by
  unfold loopStep
  rw [marker]
  exact ⟨rfl, fun _ => rfl⟩

/-! ### The firing of one stack -/

theorem State.modStack_congr {s : State} {k : StackNo} {f g : StackRec → StackRec}
    (same : f s.cue.recs[k] = g s.cue.recs[k]) : s.modStack k f = s.modStack k g := by
  have recs : updAt s.cue.recs k f = updAt s.cue.recs k g := by
    unfold updAt
    rw [same]
  unfold State.modStack
  rw [recs]

theorem State.applyDeferred_ref (s : State) : s.applyDeferred.ref = s.ref := by
  obtain ⟨scene, level, is⟩ := State.applied_shape (s.tally.queue.filter fun d => (s.releasable d).isSome) s
  rw [State.applyDeferred_eq, State.raiseTogether_ref, State.appliedQueue, is]

/-- Two states in which a stack finds the same stacks, preemption stack and clock. -/
structure State.SameStacks (s u : State) : Prop where
  cue : u.cue = s.cue
  takeover : u.takeover = s.takeover
  ref : u.ref = s.ref

theorem State.SameStacks.refl (s : State) : s.SameStacks s := ⟨rfl, rfl, rfl⟩

theorem State.applyDeferred_sameStacks (s : State) : s.SameStacks s.applyDeferred :=
  ⟨s.applyDeferred_keeps.1, s.applyDeferred_keeps.2, s.applyDeferred_ref⟩

/-- A stack that may run and holds a takeover level finds itself as its holder. -/
theorem State.mayRun.holder {s : State} {k : StackNo} (legal : s.preemptionLegal) (may : s.mayRun k)
    (takeover : isTakeover (s.cue.recs[k]).level = true) : s.takeover.holder (s.cue.recs[k]).level = some k := by
  rcases may with ⟨show', -⟩ | ⟨-, top⟩
  · have := (isTakeover_iff _).1 takeover
    omega
  · exact legal.holder (legal.top top).1

/-- A firing of a stack that may run, in the state or after the application step. -/
theorem State.SameStacks.fires {s u : State} (same : s.SameStacks u) {k : StackNo} {n : Nat} {q : Cue}
    (legal : s.preemptionLegal) (may : s.mayRun k) (position : (s.cue.recs[k]).position = some n)
    (found : s.cue.find k n = some q) (again : Option Nat) :
    u.fire k again = u.fired k q (again.elim q.body.repeats fun r => r - 1) := by
  refine State.fire_eq again _ rfl (n := n) ?_ ?_ ?_
  · rw [same.cue, position]
  · rw [same.cue, found]
  · rw [same.cue, same.takeover]
    exact may.holder legal

/-- A MARK whose one turn is `act` is one of the two that the statements name: before or after the application step. -/
theorem State.marked_of {s g b : State} {k : StackNo} {order : List Nat} {act : State → State}
    (steps : s.markSteps order = (g.stackActs k).applyDeferred ∨ s.markSteps order = g.applyDeferred.stackActs k)
    (before : g.stackActs k = act b) (after : g.applyDeferred.stackActs k = act b.applyDeferred) :
    b.marked act (s.issueMark order).startNotices := by
  unfold State.issueMark
  rcases steps with is | is
  · rw [is, before]
    exact .inl rfl
  · rw [is, after]
    exact .inr rfl

theorem State.restsAt_stilled {s : State} {k : StackNo} (rests : ∀ j : StackNo, j ≠ k → s.restsAt j) : s.stilled k :=
  fun j other => (rests j other).1

/-- Where every other stack rests and stack `k` asks for nothing, the MARK finds the stacks as they are. -/
theorem State.granted_unchained {s : State} {k : StackNo} (rests : ∀ j : StackNo, j ≠ k → s.restsAt j)
    (none : (s.cue.recs[k]).chainedGo = false) (calm : (s.presented k || s.eligible k) = false) :
    s.takeAllChained = s ∧ s.markStart.granted = s := by
  have chains : s.takeAllChained = s := State.takeAllChained_none fun j => by
    by_cases same : j = k
    · rw [same]; exact none
    · exact (rests j same).2.1
  refine ⟨chains, ?_⟩
  rw [State.markStart_granted, chains]
  refine State.grant_of_none fun j => ?_
  by_cases same : j = k
  · rw [same]; exact calm
  · exact (rests j same).asks_not

theorem State.actingState_of {s : State} {k : StackNo} (free : s.markStart.free k = true) :
    s.actingState k = some (s.markStart.granted.cue.recs[k]).state := by
  unfold State.actingState
  dsimp only
  exact if_pos free

section
variable {s : State} {k : StackNo} {order : List Nat}

/-- The MARK of a stack that may run, at which every other rests and which has no chained GO. -/
theorem State.mark_unchained (legal : s.preemptionLegal) (due : s.ref.markDue.isSome = true)
    (rests : ∀ j : StackNo, j ≠ k → s.restsAt j) (may : s.mayRun k) (pending : (s.cue.recs[k]).pendingGo = false)
    (none : (s.cue.recs[k]).chainedGo = false) {act : State → State}
    (turn : ∀ u, s.SameStacks u → u.stackActs k = act u) {happens : Bool}
    (is : s.actingState k = some (s.cue.recs[k]).state → happens = true) :
    ∃ t, (s.markWhen order happens).done = .next t ∧ s.marked act t := by
  obtain ⟨chains, granted⟩ := State.granted_unchained rests none (may.asks_not pending)
  have free : s.markStart.free k = true := by
    rw [State.markStart_free, chains, may.free legal]
    rfl
  have acting := State.actingState_of free
  rw [granted] at acting
  refine ⟨_, exec_markWhen due (is acting), State.marked_of (g := s) ?_ (turn s (.refl s))
    (turn _ s.applyDeferred_sameStacks)⟩
  exact (State.markSteps_alone order granted (State.restsAt_stilled rests) (may.levelApart legal)).2 free

/-- A chained GO of a stack that may run sets it off (R116). -/
theorem State.takeChained_runs (may : s.mayRun k) (pending : (s.cue.recs[k]).pendingGo = false)
    (chained : (s.cue.recs[k]).chainedGo = true)
    (state : (s.cue.recs[k]).state = .idle ∨ (∃ m, (s.cue.recs[k]).state = .waiting m) ∨
      ∃ f g, (s.cue.recs[k]).state = .armed f g) :
    s.takeChained k = s.modStack k fun r => { r with state := .waiting 0, chainedGo := false } := by
  have own : (s.modStack k fun r => { r with chainedGo := false }).cue.recs[k] =
      { s.cue.recs[k] with chainedGo := false } := by
    rw [State.modStack_at, if_pos rfl]
  rw [State.takeChained_of_some chained, State.goEffect_open (by rw [own]; exact state), own]
  rcases may with ⟨show', none⟩ | ⟨takeover, top⟩
  · rw [if_pos show', if_neg (by rw [State.modStack_takeover, none]; omega)]
    exact s.modStack_modStack k _ _
  · have level := (isTakeover_iff _).1 takeover
    rw [if_neg (show ¬ (s.cue.recs[k]).level < 5 by omega), State.takeoverGo_top (s := s.modStack k _) top]
    refine (s.modStack_modStack k _ _).trans (State.modStack_congr ?_)
    change ({ s.cue.recs[k] with state := .waiting 0, pendingGo := false, chainedGo := false } : StackRec) = _
    rw [← pending]

/-- What is left of a stack's record before its MARK by its own chained GO: its level, its place and its waiting GO. -/
theorem State.modStack_rest {f : StackRec → StackRec} (rests : ∀ j : StackNo, j ≠ k → s.restsAt j) (j : StackNo) (other : j ≠ k) :
    (s.modStack k f).restsAt j := by
  unfold State.restsAt
  rw [State.modStack_at, if_neg (Ne.symm other)]
  exact rests j other

theorem State.mayRun.congr {u : State} (may : s.mayRun k) (level : (u.cue.recs[k]).level = (s.cue.recs[k]).level)
    (takeover : u.takeover = s.takeover) : u.mayRun k := by
  unfold State.mayRun
  rw [level, takeover]
  exact may

/-- Where only stack `k` has a chained GO and then asks for nothing, the MARK finds the stacks after that GO. -/
theorem State.granted_chained (rests : ∀ j : StackNo, j ≠ k → s.restsAt j) {f : StackRec → StackRec}
    (chain : s.takeChained k = s.modStack k f)
    (calm : ((s.modStack k f).presented k || (s.modStack k f).eligible k) = false) :
    s.takeAllChained = s.modStack k f ∧ s.markStart.granted = s.modStack k f := by
  have chains : s.takeAllChained = s.modStack k f :=
    (State.takeAllChained_alone fun j other => (rests j other).2.1).trans chain
  refine ⟨chains, ?_⟩
  rw [State.markStart_granted, chains]
  refine State.grant_of_none fun j => ?_
  by_cases same : j = k
  · rw [same]; exact calm
  · exact (State.modStack_rest rests j same).asks_not

end

/-- The firing of the one stack that acts at a MARK (R102, R111, R112, R116). -/
theorem State.stack_fires {s : State} {k : StackNo} {n : Nat} {q : Cue} (order : List Nat) (legal : s.preemptionLegal)
    (due : s.ref.markDue.isSome = true) (rests : ∀ j : StackNo, j ≠ k → s.restsAt j) (may : s.mayRun k)
    (pending : (s.cue.recs[k]).pendingGo = false) (chained : (s.cue.recs[k]).chainedGo = true)
    (position : (s.cue.recs[k]).position = some n) (found : s.cue.find k n = some q)
    (state : (s.cue.recs[k]).state = .idle ∨ (∃ m, (s.cue.recs[k]).state = .waiting m) ∨
      ∃ f g, (s.cue.recs[k]).state = .armed f g) :
    ∃ t, exec (.chainedGo order k) s = .next t ∧ s.marked (fun u =>
      (u.modStack k fun r => { r with state := .waiting 0, chainedGo := false }).fired k q q.body.repeats) t := by
  have chain := State.takeChained_runs may pending chained state
  have own : (s.modStack k fun r => { r with state := .waiting 0, chainedGo := false }).cue.recs[k] =
      { s.cue.recs[k] with state := .waiting 0, chainedGo := false } := by
    rw [State.modStack_at, if_pos rfl]
  have position' : ((s.modStack k fun r => { r with state := .waiting 0, chainedGo := false }).cue.recs[k]).position =
      some n := by rw [own]; exact position
  have may' : (s.modStack k fun r => { r with state := .waiting 0, chainedGo := false }).mayRun k :=
    may.congr (by rw [own]) rfl
  have legal' : (s.modStack k fun r => { r with state := .waiting 0, chainedGo := false }).preemptionLegal :=
    State.preemptionLegal_of (s := s) rfl rfl (fun j => s.modStack_levels rfl j) legal
  obtain ⟨chains, granted⟩ := State.granted_chained rests chain (may'.asks_not (by rw [own]; exact pending))
  have free : s.markStart.free k = true := by
    rw [State.markStart_free, chains, may'.free legal']
    rfl
  have turn (u : State) (same : (s.modStack k fun r => { r with state := .waiting 0, chainedGo := false }).SameStacks u) :
      u.stackActs k = u.fired k q q.body.repeats := by
    have waits : (u.cue.recs[k]).state = .waiting 0 := by rw [same.cue, own]
    unfold State.stackActs
    rw [waits]
    exact same.fires legal' may' position' found none
  refine ⟨_, exec_markWhen due chained, State.marked_of
    (g := s.modStack k fun r => { r with state := .waiting 0, chainedGo := false }) ?_ (turn _ (.refl _)) ?_⟩
  · refine (State.markSteps_alone order granted (fun j other => ?_) (may'.levelApart legal')).2 free
    exact (State.modStack_rest rests j other).1
  · rw [turn _ (State.applyDeferred_sameStacks _), State.applyDeferred_modStack]

/-! ### The counts (R102, R106, R111, R117) -/

/-- The tasks of other stacks, none of which holds its level through stack `k`, spare stack `k`. -/
theorem foldl_markTask_spares {k : StackNo} (l : List MarkTask) {s : State}
    (apart : ∀ j, .stack j ∈ l → j ≠ k ∧ PreEntry.level (s.cue.recs[j]).level k ∉ s.takeover.stack) :
    State.Spares k s (l.foldl State.markTask s) := by
  induction l generalizing s with
  | nil => exact .refl k s
  | cons x l ih =>
    have first : State.Spares k s (s.markTask x) := by
      cases x with
      | stack j =>
        obtain ⟨other, free⟩ := apart j List.mem_cons_self
        exact State.stackActs_spares other free
      | apply => exact .of_same s.applyDeferred_keeps.1 (by rw [State.markTask, s.applyDeferred_keeps.2]) s.applyDeferred_ref
    refine first.trans (ih fun j there => ?_)
    obtain ⟨other, free⟩ := apart j (List.mem_cons_of_mem _ there)
    rw [first.levels]
    exact ⟨other, fun entry => free (first.entries _ entry)⟩

/-- A grant to other stacks leaves the record of a stack that does not ask. -/
theorem State.grant_rec {s : State} {k : StackNo} (calm : (s.presented k || s.eligible k) = false) :
    s.grant.cue.recs[k] = s.cue.recs[k] := by
  rw [s.grant_fields.1]
  cases chosen : s.grantee with
  | none => rfl
  | some g =>
    have other : k ≠ g := fun same => by
      have asks := (s.grantee_spec.1 g chosen).1
      rw [← same, calm] at asks
      cases asks
    change (s.grantRecs g)[k] = _
    rw [State.grantRecs_at, if_neg other, if_neg (ne_true_of_eq_false (Bool.or_eq_false_iff.1 calm).1)]

theorem State.grant_levels (s : State) (j : StackNo) : (s.grant.cue.recs[j]).level = (s.cue.recs[j]).level := by
  rw [s.grant_fields.1]
  cases s.grantee with
  | none => rfl
  | some g => exact s.grantRecs_level g j

theorem State.grant_ref (s : State) : s.grant.ref = s.ref := by
  unfold State.grant
  cases s.grantee with
  | none => rfl
  | some k =>
    dsimp only
    split <;> rfl

/-- The entries of a stack that does not ask were on the preemption stack before the grant. -/
theorem State.grant_entry {s : State} {k : StackNo} (calm : (s.presented k || s.eligible k) = false) {l : Nat}
    (there : PreEntry.level l k ∈ s.grant.takeover.stack) : PreEntry.level l k ∈ s.takeover.stack := by
  rw [s.grant_fields.2] at there
  cases chosen : s.grantee with
  | none => rw [chosen] at there; exact there
  | some g =>
    rw [chosen] at there
    change _ ∈ s.grantEntries g at there
    unfold State.grantEntries at there
    split at there
    · exact there
    · refine (List.mem_append.1 there).resolve_right fun last => ?_
      have asks := (s.grantee_spec.1 g chosen).1
      cases List.mem_singleton.1 last
      rw [calm] at asks
      cases asks

/-- A free stack does not hold its level through another one (R117). -/
theorem State.preemptionLegal.free_apart {s : State} (legal : s.preemptionLegal) {j k : StackNo} (other : j ≠ k)
    (free : s.takeover.suspends j (s.cue.recs[j]).level = false) :
    PreEntry.level (s.cue.recs[j]).level k ∉ s.takeover.stack := by
  intro there
  have low := s.takeover.rank_le_mask legal.1 there
  change (s.cue.recs[j]).level ≤ _ at low
  rcases (TakeoverUnit.suspends_takeover (legal.2.1 _ k there).1).1 free with above | ⟨-, top⟩
  · omega
  · exact other (legal.unique (legal.top top).1 there)

/-- What any MARK leaves of a stack that asks for nothing: the turn that it has, if it is free, and a chained GO. -/
theorem State.mark_turn {s : State} {k : StackNo} (order : List Nat) (legal : s.preemptionLegal)
    (none : (s.cue.recs[k]).chainedGo = false)
    (calm : (s.takeAllChained.presented k || s.takeAllChained.eligible k) = false) {x : StackState}
    (turn : s.takeover.suspends k (s.cue.recs[k]).level = false → ∀ u : State,
      (u.cue.recs[k]).state = (s.cue.recs[k]).state → u.ref = s.ref →
      u.stackActs k = u.modStack k fun r => { r with state := x })
    (held : s.takeover.suspends k (s.cue.recs[k]).level = true → x = (s.cue.recs[k]).state) :
    ∃ c, (s.markSteps order).cue.recs[k] = { s.cue.recs[k] with state := x, chainedGo := c } := by
  have taken := s.takeAllChained_taken
  have legal' : s.takeAllChained.preemptionLegal :=
    State.preemptionLegal_of (by rw [taken.takeover]) (by rw [taken.takeover]) taken.levels legal
  have own : s.takeAllChained.grant.cue.recs[k] = s.cue.recs[k] := (State.grant_rec calm).trans (taken.others k none)
  have apart : ∀ j, j ≠ k → s.markStart.free j = true →
      PreEntry.level (s.takeAllChained.grant.cue.recs[j]).level k ∉ s.takeAllChained.grant.takeover.stack := by
    intro j other free there
    rw [State.markStart_free, Bool.not_eq_true'] at free
    rw [State.grant_levels] at there
    exact legal'.free_apart other free (State.grant_entry calm there)
  have perm := arrange_perm order (markTasks s.markStart.free)
  have once := perm.nodup_iff.2 (markTasks_nodup s.markStart.free)
  have among : ∀ j, .stack j ∈ arrange order (markTasks s.markStart.free) ↔ s.markStart.free j = true := fun j => by
    rw [perm.mem_iff, mem_markTasks]
  rw [State.markSteps_eq, State.markStart_granted]
  generalize arrange order (markTasks s.markStart.free) = l at once among
  have freeK : s.markStart.free k = !s.takeover.suspends k (s.cue.recs[k]).level := by
    rw [State.markStart_free, taken.takeover, taken.levels]
  cases suspended : s.takeover.suspends k (s.cue.recs[k]).level with
  | true =>
    rw [suspended] at freeK
    have spared := foldl_markTask_spares (k := k) l (s := s.takeAllChained.grant) fun j there => by
      have other : j ≠ k := fun same => by
        rw [same, among k, freeK] at there
        cases there
      exact ⟨other, apart j other ((among j).1 there)⟩
    obtain ⟨c, is⟩ := spared.own
    rw [own] at is
    exact ⟨c, by rw [is, held suspended]⟩
  | false =>
    rw [suspended] at freeK
    obtain ⟨before, after, rfl⟩ := List.append_of_mem ((among k).2 freeK)
    obtain ⟨-, tail, cross⟩ := List.nodup_append.1 once
    have first := foldl_markTask_spares (k := k) before (s := s.takeAllChained.grant) fun j there =>
      have other : j ≠ k := fun same => cross _ (same ▸ there) _ List.mem_cons_self rfl
      ⟨other, apart j other ((among j).1 (List.mem_append_left _ there))⟩
    rw [List.foldl_append, List.foldl_cons]
    generalize before.foldl State.markTask s.takeAllChained.grant = u at first
    obtain ⟨c, is⟩ := first.own
    rw [own] at is
    change ∃ c, (after.foldl State.markTask (u.stackActs k)).cue.recs[k] = _
    rw [turn suspended u (by rw [is]) (by rw [first.ref, State.grant_ref, taken.ref])]
    have last := foldl_markTask_spares (k := k) after (s := u.modStack k fun r => { r with state := x }) fun j there => by
      have other : j ≠ k := fun same => (List.nodup_cons.1 tail).1 (same ▸ there)
      refine ⟨other, fun entry => ?_⟩
      rw [u.modStack_levels rfl, first.levels] at entry
      exact apart j other ((among j).1 (List.mem_append_right _ (List.mem_cons_of_mem _ there))) (first.entries _ entry)
    obtain ⟨d, is'⟩ := last.own
    refine ⟨d, ?_⟩
    rw [is', State.modStack_at, if_pos rfl, is]

end Sys2Proof.Machine
end

section
/-! PROOF. O27: what a stack does at a MARK. -/

namespace Sys2Proof.Machine

section
variable {s u : State} {k : StackNo}

theorem State.SameStacks.raised (same : s.SameStacks u) (j : StackNo) (a : Alert) : s.SameStacks (u.raiseStack j a) :=
  ⟨same.cue, same.takeover, same.ref⟩

/-! ### The turn of a stack by its state -/

theorem State.stackActs_waiting {m : Nat} (state : (s.cue.recs[k]).state = .waiting (m + 1)) :
    s.stackActs k = s.modStack k fun r => { r with state := .waiting m } := by
  unfold State.stackActs
  rw [state]

theorem State.stackActs_waited (state : (s.cue.recs[k]).state = .waiting 0) : s.stackActs k = s.fire k none := by
  unfold State.stackActs
  rw [state]

theorem State.stackActs_repeating {r i : Nat} (state : (s.cue.recs[k]).state = .repeating r (i + 1)) :
    s.stackActs k = s.modStack k fun x => { x with state := .repeating r i } := by
  unfold State.stackActs
  rw [state]

theorem State.stackActs_repeats {r : Nat} (state : (s.cue.recs[k]).state = .repeating r 0) :
    s.stackActs k = s.fire k (some r) := by
  unfold State.stackActs
  rw [state]

theorem State.stackActs_armed {f : Frame} {g : Nat} (state : (s.cue.recs[k]).state = .armed f g) :
    s.stackActs k = s.decideArm k f g := by
  unfold State.stackActs
  rw [state]

/-! ### What an armed stack does, by how late it is (R112) -/

variable {f : Frame} {g : Nat}

theorem State.decideArm_due (late : lateBy s.ref.counter f = 0) : s.decideArm k f g = s.fire k none := by
  unfold State.decideArm
  exact if_pos late

theorem State.decideArm_late (late : 1 ≤ lateBy s.ref.counter f) (graced : lateBy s.ref.counter f ≤ g) :
    s.decideArm k f g = (s.raiseStack k (.cueLate k ((s.cue.recs[k]).position.getD 0) f
      (BitVec.ofNat 32 (lateBy s.ref.counter f)) s.ref.counter)).fire k none := by
  unfold State.decideArm
  exact (if_neg (by omega)).trans (if_pos graced)

theorem State.decideArm_expired (late : g < lateBy s.ref.counter f) (past : lateBy s.ref.counter f < 2 ^ 31) :
    s.decideArm k f g = (s.modStack k fun r => { r with state := .idle }).raiseStack k
      (.cueExpired k ((s.cue.recs[k]).position.getD 0) f (BitVec.ofNat 32 (lateBy s.ref.counter f)) s.ref.counter) := by
  unfold State.decideArm
  exact (if_neg (by omega)).trans ((if_neg (by omega)).trans (if_pos past))

theorem State.decideArm_future (future : 2 ^ 31 ≤ lateBy s.ref.counter f) (grace : g ≤ 65535) : s.decideArm k f g = s := by
  unfold State.decideArm
  exact (if_neg (by omega)).trans ((if_neg (by omega)).trans (if_neg (by omega)))

end

/-! ### The end of a wait, of an interval and of an arm -/

section
variable {s : State} {k : StackNo}

theorem State.waitEnds_of (is : s.actingState k = some (.waiting 0)) : s.waitEnds k = true := by
  unfold State.waitEnds
  rw [is]
  rfl

theorem State.repeatEnds_of {r : Nat} (is : s.actingState k = some (.repeating r 0)) : s.repeatEnds k = true := by
  unfold State.repeatEnds
  rw [is]
  rfl

theorem State.armEnds_of {f : Frame} {g : Nat} (is : s.actingState k = some (.armed f g))
    (past : lateBy s.ref.counter f < 2 ^ 31) : s.armEnds k = true := by
  unfold State.armEnds
  rw [is]
  exact decide_eq_true past

end

/-! ### A stack without a chained GO -/

section
variable {s : State} {order : List Nat} {k : StackNo} {n : Nat} {q : Cue} (legal : s.preemptionLegal)
  (due : s.ref.markDue.isSome = true) (rests : ∀ j : StackNo, j ≠ k → s.restsAt j) (may : s.mayRun k)
  (pending : (s.cue.recs[k]).pendingGo = false) (position : (s.cue.recs[k]).position = some n)
  (found : s.cue.find k n = some q) (unchained : (s.cue.recs[k]).chainedGo = false)
include legal due rests may pending position found unchained

theorem State.wait_fires (state : (s.cue.recs[k]).state = .waiting 0) :
    ∃ t, exec (.waitExpiry order k) s = .next t ∧ s.marked (fun u => u.fired k q q.body.repeats) t := by
  have ends : s.actingState k = some (s.cue.recs[k]).state → s.waitEnds k = true :=
    fun is => State.waitEnds_of (is.trans (congrArg some state))
  refine State.mark_unchained legal due rests may pending unchained ?_ ends
  intro u same
  rw [State.stackActs_waited (same.cue ▸ state)]
  exact same.fires legal may position found none

theorem State.interval_fires {r : Nat} (state : (s.cue.recs[k]).state = .repeating r 0) :
    ∃ t, exec (.repeatIntervalExpiry order k) s = .next t ∧ s.marked (fun u => u.fired k q (r - 1)) t := by
  have ends : s.actingState k = some (s.cue.recs[k]).state → s.repeatEnds k = true :=
    fun is => State.repeatEnds_of (is.trans (congrArg some state))
  refine State.mark_unchained legal due rests may pending unchained ?_ ends
  intro u same
  rw [State.stackActs_repeats (same.cue ▸ state)]
  exact same.fires legal may position found (some r)

variable {f : Frame} {g : Nat} (state : (s.cue.recs[k]).state = .armed f g)
include state

omit position found in
theorem State.arm_acts (past : lateBy s.ref.counter f < 2 ^ 31) {act : State → State}
    (turn : ∀ u, s.SameStacks u → u.decideArm k f g = act u) :
    ∃ t, exec (.armTarget order k) s = .next t ∧ s.marked act t := by
  have ends : s.actingState k = some (s.cue.recs[k]).state → s.armEnds k = true :=
    fun is => State.armEnds_of (is.trans (congrArg some state)) past
  refine State.mark_unchained legal due rests may pending unchained ?_ ends
  intro u same
  rw [State.stackActs_armed (same.cue ▸ state)]
  exact turn u same

theorem State.arm_fires (late : lateBy s.ref.counter f = 0) :
    ∃ t, exec (.armTarget order k) s = .next t ∧ s.marked (fun u => u.fired k q q.body.repeats) t :=
  State.arm_acts legal due rests may pending unchained state (by omega) fun u same => by
    rw [State.decideArm_due (same.ref ▸ late)]
    exact same.fires legal may position found none

theorem State.arm_fires_late (late : 1 ≤ lateBy s.ref.counter f) (graced : lateBy s.ref.counter f ≤ g)
    (grace : g ≤ 65535) : ∃ t, exec (.armTarget order k) s = .next t ∧ s.marked (fun u =>
      (u.raiseStack k (.cueLate k n f (BitVec.ofNat 32 (lateBy s.ref.counter f)) s.ref.counter)).fired k q
        q.body.repeats) t :=
  State.arm_acts legal due rests may pending unchained state (by omega) fun u same => by
    rw [State.decideArm_late (same.ref ▸ late) (same.ref ▸ graced), same.ref, same.cue, position]
    exact (same.raised k _).fires legal may position found none

omit found in
theorem State.arm_expires (late : g < lateBy s.ref.counter f) (past : lateBy s.ref.counter f < 2 ^ 31) :
    ∃ t, exec (.armTarget order k) s = .next t ∧ s.marked (fun u =>
      (u.modStack k fun r => { r with state := .idle }).raiseStack k
        (.cueExpired k n f (BitVec.ofNat 32 (lateBy s.ref.counter f)) s.ref.counter)) t :=
  State.arm_acts legal due rests may pending unchained state past fun u same => by
    rw [State.decideArm_expired (same.ref ▸ late) (same.ref ▸ past), same.ref, same.cue, position]
    rfl

end

/-! ### A chained GO at END -/

/-- A chained GO of a stack at END is dropped (R116). -/
theorem State.ended_drops {s : State} {k : StackNo} (order : List Nat) (due : s.ref.markDue.isSome = true)
    (rests : ∀ j : StackNo, j ≠ k → s.restsAt j) (pending : (s.cue.recs[k]).pendingGo = false)
    (chained : (s.cue.recs[k]).chainedGo = true) (ended : (s.cue.recs[k]).state = .ended) :
    ∃ t : State, exec (.chainedGo order k) s = .next t ∧
      s.marked (fun u => u.modStack k fun r => { r with chainedGo := false }) t := by
  have own : (s.modStack k fun r => { r with chainedGo := false }).cue.recs[k] =
      { s.cue.recs[k] with chainedGo := false } := by
    rw [State.modStack_at, if_pos rfl]
  have chain : s.takeChained k = s.modStack k fun r => { r with chainedGo := false } := by
    rw [State.takeChained_of_some chained, State.goEffect_ended (by rw [own]; exact ended)]
  have calm := State.asks_not (s := s.modStack k fun r => { r with chainedGo := false }) (j := k)
    (fun n waits => by rw [own] at waits; cases ended.symm.trans waits) (by rw [own]; exact pending)
  obtain ⟨-, granted⟩ := State.granted_chained rests chain calm
  have still (j : StackNo) : ((s.modStack k fun r => { r with chainedGo := false }).cue.recs[j]).state = .idle ∨
      ((s.modStack k fun r => { r with chainedGo := false }).cue.recs[j]).state = .ended := by
    by_cases same : j = k
    · rw [same, own]; exact .inr ended
    · exact (State.modStack_rest rests j same).1
  refine ⟨_, exec_markWhen due chained, .inl ?_⟩
  unfold State.issueMark
  rw [State.markSteps_eq, granted, foldl_markTasks_rest still]

/-! ### Any MARK -/

section
variable {s : State} {k : StackNo} {order : List Nat} (legal : s.preemptionLegal)
  (due : s.ref.markDue.isSome = true) (unchained : (s.cue.recs[k]).chainedGo = false)

include due in
theorem exec_mark_becomes {x : StackState}
    (is : ∃ c, (s.markSteps order).cue.recs[k] = { s.cue.recs[k] with state := x, chainedGo := c }) :
    ∃ t : State, exec (.mark order) s = .next t ∧
      t.cue.recs[k] = { s.cue.recs[k] with state := x, chainedGo := (t.cue.recs[k]).chainedGo } := by
  obtain ⟨n, owed⟩ := Option.isSome_iff_exists.1 due
  refine ⟨(s.owedMark order).startNotices, rfl, ?_⟩
  rw [State.owedMark_of_some owed]
  change (s.markSteps order).cue.recs[k] = { s.cue.recs[k] with
    state := x, chainedGo := ((s.markSteps order).cue.recs[k]).chainedGo }
  obtain ⟨c, is⟩ := is
  rw [is]

include legal due unchained in
/-- What any MARK leaves of a stack that may run. -/
theorem State.mayRun.becomes (may : s.mayRun k) (pending : (s.cue.recs[k]).pendingGo = false) {x : StackState}
    (turn : ∀ u : State, (u.cue.recs[k]).state = (s.cue.recs[k]).state → u.ref = s.ref →
      u.stackActs k = u.modStack k fun r => { r with state := x }) :
    ∃ t : State, exec (.mark order) s = .next t ∧
      t.cue.recs[k] = { s.cue.recs[k] with state := x, chainedGo := (t.cue.recs[k]).chainedGo } := by
  have taken := s.takeAllChained_taken
  have own := taken.others k unchained
  refine exec_mark_becomes due (State.mark_turn order legal unchained ?_ (fun _ => turn) fun held => ?_)
  · exact (may.congr (by rw [own]) taken.takeover).asks_not (by rw [own]; exact pending)
  · rw [may.free legal] at held
    cases held

/-- A turn that changes nothing writes the state that stands. -/
theorem State.modStack_state (u : State) (k : StackNo) {x : StackState} (is : (u.cue.recs[k]).state = x) :
    u = u.modStack k fun r => { r with state := x } := by
  refine (u.modStack_id k).symm.trans (State.modStack_congr ?_)
  change u.cue.recs[k] = { u.cue.recs[k] with state := x }
  rw [← is]

include legal in
theorem State.preemptionLegal.suspended (below : (s.cue.recs[k]).level < s.takeover.mask ∨
    isTakeover (s.cue.recs[k]).level = true ∧ (s.cue.recs[k]).level = s.takeover.mask ∧ s.takeover.onTop k = false) :
    s.takeover.suspends k (s.cue.recs[k]).level = true ∧ (s.presented k || s.eligible k) = false := by
  have held : s.takeover.suspends k (s.cue.recs[k]).level = true := by
    unfold TakeoverUnit.suspends
    rcases below with low | ⟨takeover, same, under⟩
    · rw [decide_eq_true low, Bool.true_or]
    · rw [takeover, decide_eq_true same, under, Bool.true_and, Bool.not_false, Bool.and_true, Bool.or_true]
  have notTop : s.takeover.onTop k = false ∨ (s.cue.recs[k]).level < s.takeover.mask := by
    rcases below with low | ⟨-, -, under⟩
    · exact .inr low
    · exact .inl under
  refine ⟨held, Bool.or_eq_false_iff.2 ⟨Bool.eq_false_iff.2 fun presented => ?_, Bool.eq_false_iff.2 fun eligible => ?_⟩⟩
  · obtain ⟨-, -, free, -⟩ := (s.presented_iff k).1 presented
    rw [held] at free
    cases free
  · unfold State.eligible at eligible
    simp only [Bool.and_eq_true, Bool.or_eq_true, decide_eq_true_eq] at eligible
    obtain ⟨-, above | top⟩ := eligible
    · omega
    · have := (legal.top top).2
      rcases notTop with under | low
      · rw [top] at under
        cases under
      · omega

include legal due unchained in
/-- A suspended stack is held as it stands (R117). -/
theorem State.suspended_becomes (below : (s.cue.recs[k]).level < s.takeover.mask ∨
    isTakeover (s.cue.recs[k]).level = true ∧ (s.cue.recs[k]).level = s.takeover.mask ∧ s.takeover.onTop k = false) :
    ∃ t : State, exec (.mark order) s = .next t ∧ t.cue.recs[k] =
      { s.cue.recs[k] with state := (s.cue.recs[k]).state, chainedGo := (t.cue.recs[k]).chainedGo } := by
  have taken := s.takeAllChained_taken
  have own := taken.others k unchained
  have legal' : s.takeAllChained.preemptionLegal :=
    State.preemptionLegal_of (by rw [taken.takeover]) (by rw [taken.takeover]) taken.levels legal
  refine exec_mark_becomes due (State.mark_turn order legal unchained ?_ (fun free => ?_) fun _ => rfl)
  · refine (State.preemptionLegal.suspended legal' ?_).2
    rw [own, taken.takeover]
    exact below
  · rw [(State.preemptionLegal.suspended legal below).1] at free
    cases free

end

/-- Settles O27: the loop markers by their table, the firing by the MARK at which one stack acts, and the counts by the turn that any MARK gives it. -/
theorem stacksActAtMark : Obligations.StacksActAtMark := by
  unfold Obligations.StacksActAtMark
  refine ⟨fun q x => ⟨fun marker => ⟨loopStep_none marker none, loopStep_none marker (some x)⟩, fun marker => ?_,
    fun marker => ?_⟩, fun s order k n q legal due rests may pending position found => ?_,
    fun s order k due rests pending chained ended => State.ended_drops order due rests pending chained ended,
    fun s order k legal due unchained => ?_⟩
  · obtain ⟨outside, inside⟩ := loopStep_starts marker
    exact ⟨outside, fun same => by rw [inside, if_pos same], fun other => by rw [inside, if_neg other]⟩
  · obtain ⟨outside, inside⟩ := loopStep_ends marker
    exact ⟨outside, fun last => by rw [inside, if_pos last], fun more => by rw [inside, if_neg (by omega)]⟩
  · refine ⟨fun unchained => ⟨fun state => ?_, fun r state => ?_, fun f g state grace => ⟨fun late => ?_,
      fun late graced => ?_, fun late past => ?_⟩⟩, fun chained state => ?_⟩
    · exact State.wait_fires legal due rests may pending position found unchained state
    · exact State.interval_fires legal due rests may pending position found unchained state
    · exact State.arm_fires legal due rests may pending position found unchained state late
    · exact State.arm_fires_late legal due rests may pending position found unchained state late graced grace
    · exact State.arm_expires legal due rests may pending position unchained state late past
    · exact State.stack_fires order legal due rests may pending chained position found state
  · refine ⟨fun may pending => ⟨fun m state => ?_, fun r i state => ?_, fun f g state grace future => ?_,
      fun still => ?_⟩, fun below => State.suspended_becomes legal due unchained below⟩
    · exact may.becomes legal due unchained pending fun u same _ => State.stackActs_waiting (same.trans state)
    · exact may.becomes legal due unchained pending fun u same _ => State.stackActs_repeating (same.trans state)
    · refine may.becomes legal due unchained pending fun u same ref => ?_
      rw [State.stackActs_armed (same.trans state), State.decideArm_future (ref ▸ future) grace]
      exact u.modStack_state k (same.trans state)
    · refine may.becomes legal due unchained pending fun u same _ => ?_
      rw [State.stackActs_of_still (by rw [same]; exact still)]
      exact u.modStack_state k same

end Sys2Proof.Machine
end

section
/-! PROOF. O29: the grant of a takeover at a MARK, and the firing of the granted stack. -/

namespace Sys2Proof.Machine

/-! ### What a first firing leaves of its own stack and of the preemption stack -/

section
variable {s : State} {k : StackNo}

/-- A stack without a pending GO, and the preemption stack while the cue at the stack's place does not release. -/
structure State.FiresAt (k : StackNo) (s t : State) : Prop where
  pending : (s.cue.recs[k]).pendingGo = false → (t.cue.recs[k]).pendingGo = false
  entries : (∀ n q, (s.cue.recs[k]).position = some n → s.cue.find k n = some q → q.body.release = false) →
    t.takeover.stack = s.takeover.stack

theorem StackRec.arrive_pendingGo (r : StackRec) (c : Option Cue) : (r.arrive c).pendingGo = r.pendingGo := by
  unfold StackRec.arrive
  cases c <;> rfl

theorem State.advanced_pendingGo (q : Cue) (none : (s.cue.recs[k]).pendingGo = false) :
    ((s.advanced k q).cue.recs[k]).pendingGo = false := by
  obtain ⟨c, n, own⟩ := (s.loopAlerted_acted k q).recs k
  unfold State.advanced
  rw [State.modStack_at, if_pos rfl, StackRec.arrive_pendingGo, own]
  exact none

theorem State.release_pendingGo (l : Nat) (j : StackNo) (fade : Nat) (none : (s.cue.recs[k]).pendingGo = false) :
    ((s.release l j fade).cue.recs[k]).pendingGo = false := by
  change ((s.modStack j StackRec.halt).cue.recs[k]).pendingGo = false
  rw [State.modStack_at]
  split
  · rw [StackRec.halt_eq]
  · exact none

theorem State.lastFiring_pendingGo (q : Cue) (none : (s.cue.recs[k]).pendingGo = false) :
    ((s.lastFiring k q).cue.recs[k]).pendingGo = false := by
  have advanced := State.advanced_pendingGo q none
  rw [State.lastFiring_eq]
  split
  · cases (s.advanced k q).takeover.holder (s.cue.recs[k]).level with
    | none => exact advanced
    | some j => exact State.release_pendingGo _ j _ advanced
  · exact advanced

theorem State.lastFiring_keeps {q : Cue} (keeps : q.body.release = false) :
    (s.lastFiring k q).takeover = s.takeover := by
  rw [State.lastFiring_eq, keeps, Bool.and_false]
  exact s.advanced_takeover k q

theorem State.fire_firesAt (s : State) (k : StackNo) (again : Option Nat) : State.FiresAt k s (s.fire k again) := by
  cases stands : (s.cue.recs[k]).position.bind fun n => s.cue.find k n with
  | none =>
    rw [State.fire_of_none stands]
    exact ⟨id, fun _ => rfl⟩
  | some q =>
    obtain ⟨n, position, found⟩ := Option.bind_eq_some_iff.1 stands
    have acted := State.actAll_acted k q.number q.body.actions s 1
    obtain ⟨c, skipped, own⟩ := acted.recs k
    rw [State.fire_of_some stands]
    refine ⟨fun none => ?_, fun keeps => ?_⟩
    · have none' : ((s.actAll k q.number 1 q.body.actions).cue.recs[k]).pendingGo = false := by rw [own]; exact none
      split
      · exact State.lastFiring_pendingGo q none'
      · rw [State.modStack_at, if_pos rfl]
        exact none'
    · split
      · rw [State.lastFiring_keeps (keeps n q position found)]
        exact acted.stack
      · exact acted.stack

end

/-! ### The MARK of a granted stack -/

/-- The state after the chained GOs and the grant of a MARK, in which stack `k` is to fire. -/
structure State.Grants (s g : State) (k : StackNo) (n : Nat) : Prop where
  granted : s.markStart.granted = g
  free : s.markStart.free k = true
  legal : g.preemptionLegal
  top : g.takeover.onTop k = true
  takeover : isTakeover (g.cue.recs[k]).level = true
  still : g.stilled k
  state : (g.cue.recs[k]).state = .waiting 0
  pending : (g.cue.recs[k]).pendingGo = false
  position : (g.cue.recs[k]).position = some n
  ref : g.ref = s.ref

/-- What a MARK of a granted stack leaves. -/
structure State.Granted (g : State) (k : StackNo) (n : Nat) (t : State) : Prop where
  due : t.ref.markDue = none
  pending : (t.cue.recs[k]).pendingGo = false
  entries : (∀ q, g.cue.find k n = some q → q.body.release = false) → t.takeover.stack = g.takeover.stack
  others : ∀ j, j ≠ k → ∃ c, t.cue.recs[j] = { g.cue.recs[j] with chainedGo := c }
  fires : ∀ q, g.cue.find k n = some q → g.marked (fun v => v.fired k q q.body.repeats) t

theorem State.Grants.granted_after {s g : State} {k : StackNo} {n : Nat} {order : List Nat} (h : s.Grants g k n) :
    g.Granted k n (s.issueMark order).startNotices := by
  have may : g.mayRun k := .inr ⟨h.takeover, h.top⟩
  have apart := may.levelApart h.legal
  have acts (v : State) (same : g.SameStacks v) : v.stackActs k = v.fire k none :=
    State.stackActs_waited (same.cue ▸ h.state)
  have steps := (State.markSteps_alone order h.granted h.still apart).2 h.free
  have after := g.applyDeferred_sameStacks
  have fires := acts _ after
  have spares (v : State) (same : g.SameStacks v) (j : StackNo) (other : j ≠ k) : State.Spares j v (v.stackActs k) :=
    State.stackActs_spares (Ne.symm other) (by rw [same.cue, same.takeover]; exact apart j other)
  have firesAt (v : State) (same : g.SameStacks v) : State.FiresAt k v (v.stackActs k) := by
    rw [acts v same]
    exact v.fire_firesAt k none
  have facts : ∃ v : State, g.SameStacks v ∧ (s.markSteps order).cue = (v.stackActs k).cue ∧
      (s.markSteps order).takeover = (v.stackActs k).takeover := by
    rcases steps with is | is
    · exact ⟨g, .refl g, by rw [is, (State.applyDeferred_keeps _).1], by rw [is, (State.applyDeferred_keeps _).2]⟩
    · exact ⟨_, after, by rw [is], by rw [is]⟩
  obtain ⟨v, same, cue, takeover⟩ := facts
  have issued : (s.issueMark order).cue = (s.markSteps order).cue := rfl
  have issued' : (s.issueMark order).takeover = (s.markSteps order).takeover := rfl
  refine ⟨by rw [State.startNotices_ref, State.issueMark_ref], ?_, fun keeps => ?_, fun j other => ?_, fun q found => ?_⟩
  · rw [State.startNotices_cue, issued, cue]
    exact (firesAt v same).pending (same.cue ▸ h.pending)
  · rw [State.startNotices_takeover, issued', takeover, ← same.takeover]
    refine (firesAt v same).entries fun m q position found => ?_
    rw [same.cue] at position found
    cases h.position.symm.trans position
    exact keeps q found
  · obtain ⟨c, own⟩ := (spares v same j other).own
    exact ⟨c, by rw [State.startNotices_cue, issued, cue, own, same.cue]⟩
  · refine State.marked_of steps ?_ ?_
    · rw [acts g (.refl g)]
      exact (State.SameStacks.refl g).fires h.legal may h.position found none
    · rw [fires]
      exact after.fires h.legal may h.position found none

/-- The row TAKEOVER_GRANT at a MARK that grants stack `k`. -/
theorem State.Grants.exec_grant {s g : State} {k : StackNo} {n : Nat} {order : List Nat} (h : s.Grants g k n)
    (due : s.ref.markDue.isSome = true) (chosen : s.takeAllChained.grantee = some k) :
    ∃ t, exec (.takeoverGrant order) s = .next t ∧ g.Granted k n t :=
  ⟨_, exec_markWhen due (by rw [chosen]; rfl), h.granted_after⟩

/-! ### The choice of the grant (R118) -/

/-- A takeover stack above the mask that waits for its level, with an accepted GO or a pending one. -/
def State.asksAt (s : State) (j : StackNo) : Prop :=
  isTakeover (s.cue.recs[j]).level = true ∧ s.takeover.mask < (s.cue.recs[j]).level ∧
    (s.cue.recs[j]).chainedGo = false ∧
    ((∃ m, (s.cue.recs[j]).state = .waiting m) ∨ (s.cue.recs[j]).pendingGo = true ∧ (s.cue.recs[j]).state = .idle)

theorem State.grantee_of {s : State} {k : StackNo} (asks : (s.presented k || s.eligible k) = true)
    (best : ∀ j, j ≠ k → (s.presented j || s.eligible j) = true →
      (s.cue.recs[j]).level < (s.cue.recs[k]).level ∨ (s.cue.recs[j]).level = (s.cue.recs[k]).level ∧ k < j) :
    s.grantee = some k := by
  cases chosen : s.grantee with
  | none =>
    rw [s.grantee_spec.2 chosen k] at asks
    cases asks
  | some g =>
    obtain ⟨asksToo, first⟩ := s.grantee_spec.1 g chosen
    by_cases same : g = k
    · rw [same]
    · have below := best g same asksToo
      rcases first k asks with above | ⟨level, le⟩
      · omega
      · exact absurd le (not_le.2 (below.resolve_left (by omega)).2)

section
variable {s : State} {k j : StackNo} (legal : s.preemptionLegal)

include legal in
theorem State.asksAt.free (asks : s.asksAt j) : s.takeover.holds j = false ∧
    s.takeover.suspends j (s.cue.recs[j]).level = false := by
  obtain ⟨takeover, above, -, -⟩ := asks
  refine ⟨Bool.eq_false_iff.2 fun holds => ?_, (TakeoverUnit.suspends_takeover takeover).2 (.inl above)⟩
  obtain ⟨l, there⟩ := (s.takeover.holds_iff j).1 holds
  have low := s.takeover.rank_le_mask legal.1 there
  have level := legal.level there
  change l ≤ _ at low
  omega

include legal in
theorem State.asksAt.asks (asks : s.asksAt j) : (s.presented j || s.eligible j) = true := by
  obtain ⟨holds, free⟩ := asks.free legal
  obtain ⟨takeover, above, -, waits | ⟨pending, -⟩⟩ := asks
  · rw [(s.presented_iff j).2 ⟨takeover, holds, free, waits⟩, Bool.true_or]
  · unfold State.eligible
    dsimp only
    rw [takeover, pending, decide_eq_true above, Bool.true_or, Bool.true_and, Bool.true_and, Bool.or_true]

theorem State.asksAt.position_le (best : ∀ j : StackNo, j ≠ k → s.restsAt j ∨ s.asksAt j ∧
      ((s.cue.recs[j]).level < (s.cue.recs[k]).level ∨ (s.cue.recs[j]).level = (s.cue.recs[k]).level ∧ k < j))
    (j : StackNo) (other : j ≠ k) (asks : (s.presented j || s.eligible j) = true) :
    (s.cue.recs[j]).level < (s.cue.recs[k]).level ∨ (s.cue.recs[j]).level = (s.cue.recs[k]).level ∧ k < j := by
  rcases best j other with rests | ⟨-, behind⟩
  · rw [rests.asks_not] at asks
    cases asks
  · exact behind

theorem State.grantRecs_rests (other : j ≠ k) (rests : s.restsAt j) : (s.grantRecs k)[j] = s.cue.recs[j] := by
  rw [State.grantRecs_at, if_neg other, if_neg (ne_true_of_eq_false (Bool.or_eq_false_iff.1 rests.asks_not).1)]

include legal in
/-- A stack that asks and is not chosen is IDLE with a pending GO (R118). -/
theorem State.grantRecs_loses (other : j ≠ k) (asks : s.asksAt j) :
    (s.grantRecs k)[j] = { s.cue.recs[j] with state := .idle, pendingGo := true } := by
  obtain ⟨holds, free⟩ := asks.free legal
  rw [State.grantRecs_at, if_neg other]
  obtain ⟨takeover, above, -, waits | ⟨pending, idle⟩⟩ := asks
  · rw [if_pos ((s.presented_iff j).2 ⟨takeover, holds, free, waits⟩)]
    rfl
  · have calm : s.presented j ≠ true := fun presented => by
      obtain ⟨-, -, -, m, waits⟩ := (s.presented_iff j).1 presented
      rw [idle] at waits
      cases waits
    rw [if_neg calm, ← pending, ← idle]

theorem State.grantRecs_chosen {n : Nat} (position : (s.cue.recs[k]).position = some n) :
    (s.grantRecs k)[k] = { s.cue.recs[k] with state := .waiting 0, pendingGo := false } := by
  rw [State.grantRecs_at, if_pos rfl]
  unfold StackRec.grant
  rw [if_pos (by rw [position]; rfl)]

end

/-! ### A grant that pushes the level (R118) -/

/-- The stacks and the preemption stack after a grant that pushes the level of stack `k`. -/
def State.pushed (s : State) (k : StackNo) : State := { s with
  cue := { s.cue with recs := s.grantRecs k }
  takeover := { s.takeover with stack := s.takeover.stack ++ [.level (s.cue.recs[k]).level k] } }

theorem State.pushed_mask (s : State) (k : StackNo) : (s.pushed k).takeover.mask = (s.cue.recs[k]).level := by
  unfold State.pushed TakeoverUnit.mask
  rw [List.getLast?_append, List.getLast?_singleton]
  rfl

theorem State.pushed_onTop (s : State) (k : StackNo) : (s.pushed k).takeover.onTop k = true := by
  refine (TakeoverUnit.onTop_iff _ k).2 ⟨(s.cue.recs[k]).level, ?_⟩
  unfold State.pushed
  rw [List.getLast?_append, List.getLast?_singleton]
  rfl

theorem State.grant_pushed {s : State} {k : StackNo} (chosen : s.grantee = some k) (below : s.takeover.onTop k = false) :
    s.grant = (s.pushed k).raiseRouted
      (.takeoverChange .pushed (some ((s.cue.recs[k]).level, k)) (s.cue.recs[k]).level s.ref.counter) := by
  have raises : s.grant = (s.pushed k).raiseTakeover .pushed (some ((s.cue.recs[k]).level, k)) := by
    unfold State.grant
    rw [chosen]
    exact if_neg (ne_true_of_eq_false below)
  rw [raises]
  unfold State.raiseTakeover
  rw [State.pushed_mask]
  rfl

theorem State.grant_accepted {s : State} {k : StackNo} {n : Nat} (legal : s.preemptionLegal)
    (chosen : s.grantee = some k) (top : s.takeover.onTop k = true) (rests : ∀ j : StackNo, j ≠ k → s.restsAt j)
    (position : (s.cue.recs[k]).position = some n) :
    s.grant = (s.modStack k fun r => { r with state := .waiting 0, pendingGo := false }).raiseRouted
      (.takeoverChange .accepted (some ((s.cue.recs[k]).level, k)) (s.cue.recs[k]).level s.ref.counter) := by
  have recs : s.grantRecs k =
      (s.modStack k fun r => { r with state := .waiting 0, pendingGo := false }).cue.recs := by
    have each (j : StackNo) : (s.grantRecs k)[j] =
        (s.modStack k fun r => { r with state := .waiting 0, pendingGo := false }).cue.recs[j] := by
      rw [State.modStack_at]
      split
      · rename_i same
        rw [← same]
        exact State.grantRecs_chosen position
      · rename_i other
        exact State.grantRecs_rests (Ne.symm other) (rests j (Ne.symm other))
    exact Vector.ext fun i inside => each ⟨i, inside⟩
  have raises : s.grant = (s.modStack k fun r => { r with state := .waiting 0, pendingGo := false }).raiseTakeover
      .accepted (some ((s.cue.recs[k]).level, k)) := by
    unfold State.grant
    rw [chosen]
    refine (if_pos top).trans ?_
    change ({ s with cue := { s.cue with recs := s.grantRecs k } } : State).raiseTakeover .accepted _ = _
    rw [recs]
    rfl
  rw [raises]
  unfold State.raiseTakeover
  rw [State.modStack_takeover, (legal.top top).2]
  rfl

/-! ### The two grants -/

section
variable {s : State} {k : StackNo} {n : Nat} (legal : s.preemptionLegal)
  (position : (s.cue.recs[k]).position = some n)
include legal position

/-- A grant that pushes the level leaves its stack on top and every other one IDLE or at END. -/
theorem State.asksAt.grants (asks : s.asksAt k) (best : ∀ j : StackNo, j ≠ k → s.restsAt j ∨ s.asksAt j ∧
      ((s.cue.recs[j]).level < (s.cue.recs[k]).level ∨ (s.cue.recs[j]).level = (s.cue.recs[k]).level ∧ k < j)) :
    s.takeAllChained.grantee = some k ∧ s.Grants ((s.pushed k).raiseRouted
      (.takeoverChange .pushed (some ((s.cue.recs[k]).level, k)) (s.cue.recs[k]).level s.ref.counter)) k n := by
  have chains : s.takeAllChained = s := State.takeAllChained_none fun j => by
    by_cases same : j = k
    · rw [same]; exact asks.2.2.1
    · exact (best j same).elim (fun rests => rests.2.1) fun loses => loses.1.2.2.1
  have chosen : s.grantee = some k := State.grantee_of (asks.asks legal) (State.asksAt.position_le best)
  have below : s.takeover.onTop k = false := Bool.eq_false_iff.2 fun top => by
    have := (legal.top top).2
    have := asks.2.1
    omega
  have own := State.grantRecs_chosen position
  have pushedLegal : (s.pushed k).preemptionLegal := by
    have entries : s.grantEntries k = s.takeover.stack ++ [.level (s.cue.recs[k]).level k] :=
      if_neg (ne_true_of_eq_false below)
    have granted := State.grant_preemptionLegal chosen legal
    rw [entries] at granted
    exact granted
  refine ⟨by rw [chains]; exact chosen, ?_, ?_, pushedLegal, s.pushed_onTop k, ?_, fun j other => ?_, ?_, ?_, ?_, rfl⟩
  · rw [State.markStart_granted, chains]
    exact State.grant_pushed chosen below
  · rw [State.markStart_free, chains, (asks.free legal).2]
    rfl
  · change isTakeover ((s.grantRecs k)[k]).level = true
    rw [State.grantRecs_level]
    exact asks.1
  · change ((s.grantRecs k)[j]).state = .idle ∨ ((s.grantRecs k)[j]).state = .ended
    rcases best j other with rests | ⟨loses, -⟩
    · rw [State.grantRecs_rests other rests]
      exact rests.1
    · rw [State.grantRecs_loses legal other loses]
      exact .inl rfl
  · change ((s.grantRecs k)[k]).state = _
    rw [own]
  · change ((s.grantRecs k)[k]).pendingGo = _
    rw [own]
  · change ((s.grantRecs k)[k]).position = _
    rw [own]
    exact position

/-- A pending GO of the stack on top is granted with nothing pushed. -/
theorem State.grants_onTop (top : s.takeover.onTop k = true) (rests : ∀ j : StackNo, j ≠ k → s.restsAt j)
    (takeover : isTakeover (s.cue.recs[k]).level = true) (unchained : (s.cue.recs[k]).chainedGo = false)
    (pending : (s.cue.recs[k]).pendingGo = true) : s.takeAllChained.grantee = some k ∧ s.Grants
      ((s.modStack k fun r => { r with state := .waiting 0, pendingGo := false }).raiseRouted
        (.takeoverChange .accepted (some ((s.cue.recs[k]).level, k)) (s.cue.recs[k]).level s.ref.counter)) k n := by
  have may : s.mayRun k := .inr ⟨takeover, top⟩
  have chains : s.takeAllChained = s := State.takeAllChained_none fun j => by
    by_cases same : j = k
    · rw [same]; exact unchained
    · exact (rests j same).2.1
  have asks : (s.presented k || s.eligible k) = true := by
    unfold State.eligible
    dsimp only
    rw [takeover, pending, top, Bool.or_true, Bool.true_and, Bool.true_and, Bool.or_true]
  have chosen : s.grantee = some k := State.grantee_of asks fun j other asksToo => by
    rw [(rests j other).asks_not] at asksToo
    cases asksToo
  have own : (s.modStack k fun r => { r with state := .waiting 0, pendingGo := false }).cue.recs[k] =
      { s.cue.recs[k] with state := .waiting 0, pendingGo := false } := by
    rw [State.modStack_at, if_pos rfl]
  refine ⟨by rw [chains]; exact chosen, ?_, ?_,
    State.preemptionLegal_of (s := s) rfl rfl (fun j => s.modStack_levels (k := k) rfl j) legal, top, ?_,
    fun j other => ?_, ?_, ?_, ?_, rfl⟩
  · rw [State.markStart_granted, chains]
    exact State.grant_accepted legal chosen top rests position
  · rw [State.markStart_free, chains, may.free legal]
    rfl
  · exact (congrArg (fun r : StackRec => isTakeover r.level) own).trans takeover
  · exact (State.modStack_rest rests j other).1
  · exact congrArg StackRec.state own
  · exact congrArg StackRec.pendingGo own
  · exact (congrArg StackRec.position own).trans position

end

/-- Settles O29: the stack that asks for the highest level is granted, and fires at that MARK as the one stack that acts. -/
theorem takeoversAreGranted : Obligations.TakeoversAreGranted := by
  unfold Obligations.TakeoversAreGranted
  intro s order k n legal due takeover unchained position level asks accepted
  refine ⟨fun own best => ?_, fun rests top idle pending => ?_⟩
  · obtain ⟨chosen, grants⟩ := State.asksAt.grants legal position own best
    obtain ⟨t, run, granted⟩ := grants.exec_grant (order := order) due chosen
    refine ⟨t, run, granted.due, granted.pending, fun keeps => ?_, fun j other loses => ?_, s.pushed k, rfl,
      State.grantRecs_chosen position, fun j other => ⟨State.grantRecs_rests other, State.grantRecs_loses legal other⟩,
      granted.fires⟩
    · have stack := granted.entries keeps
      refine ⟨stack, Eq.trans ?_ (s.pushed_mask k)⟩
      unfold TakeoverUnit.mask
      rw [stack]
      rfl
    · obtain ⟨c, is⟩ := granted.others j other
      have lost : (s.pushed k).cue.recs[j] = _ := State.grantRecs_loses legal other loses
      change t.cue.recs[j] = { (s.pushed k).cue.recs[j] with chainedGo := c } at is
      rw [lost] at is
      rw [is]
      exact ⟨rfl, rfl, rfl⟩
  · obtain ⟨chosen, grants⟩ := State.grants_onTop legal position top rests takeover unchained pending
    obtain ⟨t, run, granted⟩ := grants.exec_grant (order := order) due chosen
    exact ⟨t, run, granted.due, granted.pending, granted.entries, granted.fires⟩

end Sys2Proof.Machine
end

section
/-! PROOF. The records of an image, read back from the bytes that are written for them (R185, R191). -/

namespace Sys2Proof.Machine

/-! ### Numbers and named values -/

theorem clampNat_within {lo hi x : Nat} (low : lo ≤ x) (high : x ≤ hi) : clampNat lo hi x = x := by
  unfold clampNat
  rw [if_neg (by omega), if_neg (by omega)]

theorem clampInt_within {lo hi x : Int} (low : lo ≤ x) (high : x ≤ hi) : clampInt lo hi x = x := by
  unfold clampInt
  rw [if_neg (by omega), if_neg (by omega)]

theorem byte_toNat {n : Nat} (small : n < 256) : (BitVec.ofNat 8 n).toNat = n := by
  rw [BitVec.toNat_ofNat, Nat.mod_eq_of_lt small]

theorem be16s_of_s16 {x : Int} (low : -32768 ≤ x) (high : x < 32768) :
    be16s (BitVec.ofNat 8 ((x % 65536).toNat / 256)) (BitVec.ofNat 8 (x % 65536).toNat) = x := by
  unfold be16s
  rw [be16_of_u16 (by omega)]
  split <;> omega

theorem flag?_flagByte (b : Bool) : flag? (if b then 1 else 0) = some b := by cases b <;> rfl
theorem curve?_code (c : Curve) : curve? (BitVec.ofNat 8 c.code) = some c := by cases c <;> rfl
theorem outCurve?_code (c : OutCurve) : outCurve? (BitVec.ofNat 8 c.code) = some c := by cases c <;> rfl
theorem plane?_code (p : Plane) : plane? (BitVec.ofNat 8 p.code) = some p := by cases p <;> rfl
theorem bankRole?_code (r : BankRole) : bankRole? (BitVec.ofNat 8 r.code) = some r := by cases r <;> rfl
theorem trigger?_code (t : Trigger) : trigger? (BitVec.ofNat 8 t.code) = some t := by cases t <;> rfl
theorem marker?_code (m : LoopMarker) : marker? (BitVec.ofNat 8 m.code) = some m := by cases m <;> rfl
theorem rate?_code (r : Rate) : rate? (BitVec.ofNat 8 r.code) = some r := by cases r <;> rfl
theorem lineRate?_code (r : LineRate) : lineRate? (BitVec.ofNat 8 r.code) = some r := by cases r <;> rfl
theorem guard?_code (g : Guard) : guard? (BitVec.ofNat 8 g.code) = some g := by cases g <;> rfl
theorem portRole?_code (r : PortRole) : portRole? (BitVec.ofNat 8 r.code) = some r := by cases r <;> rfl
theorem bankName?_code (n : BankName) : bankName? (BitVec.ofNat 8 n.code) = some n := by cases n <;> rfl
theorem fieldGroup?_number (g : FieldGroup) : fieldGroup? (BitVec.ofNat 8 g.number) = some g := by cases g <;> rfl

/-- All the answers of a list that are OK. -/
theorem everyOk_map {α β : Type} {f : α → Except ReplyCode β} {g : α → β} (l : List α) (each : ∀ a ∈ l, f a = .ok (g a)) :
    everyOk (l.map f) = .ok (l.map g) := by
  induction l with
  | nil => rfl
  | cons a l ih =>
    rw [List.map_cons, List.map_cons, everyOk, each a List.mem_cons_self,
      ih fun b there => each b (List.mem_cons_of_mem _ there)]
    rfl

/-! ### Window records (12.3) -/

theorem FieldValue.bytes_length (v : FieldValue) : v.bytes.length = v.group.width := by
  cases v with
  | source s => cases s <;> rfl
  | _ => rfl

theorem FieldValue.clamp_of_inRange {v : FieldValue} (range : v.inRange) : v.clamp = v := by
  cases v with
  | rect x0 y0 x1 y1 =>
    obtain ⟨hx, hx1, hy, hy1⟩ := range
    unfold FieldValue.clamp
    dsimp only
    rw [clampNat_within (by omega) (show x0 ≤ 7679 by omega), clampNat_within (by omega) hx1,
      clampNat_within (by omega) (show y0 ≤ 2159 by omega), clampNat_within (by omega) hy1, min_eq_left hx,
      min_eq_left hy, max_eq_right hx, max_eq_right hy]
  | offset dx dy =>
    obtain ⟨hx, hx', hy, hy'⟩ := range
    unfold FieldValue.clamp
    dsimp only
    rw [clampInt_within hx hx', clampInt_within hy hy']
  | brightness b =>
    unfold FieldValue.clamp
    dsimp only
    rw [clampNat_within (Nat.zero_le b) range]
  | _ => rfl

theorem fieldValue_port : ∀ p : SourceNo,
    fieldValue .source (FieldValue.source (.port p)).bytes = .ok (.source (.port p)) := by
  decide

/-- A field group's values in their ranges read back from their bytes. -/
theorem fieldValue_bytes {v : FieldValue} (range : v.inRange) : fieldValue v.group v.bytes = .ok v := by
  have clamped := FieldValue.clamp_of_inRange range
  cases v with
  | enable on => cases on <;> rfl
  | rect x0 y0 x1 y1 =>
    obtain ⟨hx, hx1, hy, hy1⟩ := range
    refine Eq.trans ?_ (congrArg Except.ok clamped)
    change Except.ok (FieldValue.rect (be16 _ _) (be16 _ _) (be16 _ _) (be16 _ _)).clamp = _
    rw [be16_of_u16 (by omega), be16_of_u16 (by omega), be16_of_u16 (by omega), be16_of_u16 (by omega)]
  | source s =>
    cases s with
    | flat => rfl
    | port p => exact fieldValue_port p
  | plane p => cases p <;> rfl
  | offset dx dy =>
    obtain ⟨hx, hx', hy, hy'⟩ := range
    refine Eq.trans ?_ (congrArg Except.ok clamped)
    change Except.ok (FieldValue.offset (be16s _ _) (be16s _ _)).clamp = _
    rw [be16s_of_s16 (by omega) (by omega), be16s_of_s16 (by omega) (by omega)]
  | orient mx my => cases mx <;> cases my <;> rfl
  | brightness b =>
    have range : b ≤ 256 := range
    refine Eq.trans ?_ (congrArg Except.ok clamped)
    change Except.ok (FieldValue.brightness (be16 _ _)).clamp = _
    rw [be16_of_u16 (by omega)]
  | layer l =>
    change (index 32 (BitVec.ofNat 8 l.val).toNat).map FieldValue.layer = _
    rw [index_ofNat (by decide)]
    rfl
  | flat c =>
    obtain ⟨hr, hg, hb⟩ := range
    change Except.ok (FieldValue.flat ⟨(BitVec.ofNat 8 c.r).toNat, (BitVec.ofNat 8 c.g).toNat,
      (BitVec.ofNat 8 c.b).toNat⟩) = _
    rw [byte_toNat (by omega), byte_toNat (by omega), byte_toNat (by omega)]

/-- Field groups all carried, each by the bytes of its width. -/
theorem splitGroups_bytes {mask : Nat} {bytes : FieldGroup → List Byte} (gs : List FieldGroup)
    (carried : ∀ g ∈ gs, mask.testBit g.number = true ∧ (bytes g).length = g.width) :
    splitGroups mask gs (gs.flatMap bytes) = some (gs.map fun g => (g, bytes g)) := by
  induction gs with
  | nil => rfl
  | cons g gs ih =>
    obtain ⟨bit, width⟩ := carried g List.mem_cons_self
    rw [List.flatMap_cons, splitGroups, if_pos bit, if_pos (by rw [List.length_append]; omega),
      List.drop_left' width, List.take_left' width, ih fun h there => carried h (List.mem_cons_of_mem _ there)]
    rfl

theorem WindowRec.read_group (r : WindowRec) (g : FieldGroup) : (r.read g).group = g := by cases g <;> rfl

theorem WindowRec.read_inRange {r : WindowRec} (range : r.inRange) (g : FieldGroup) : (r.read g).inRange := by
  obtain ⟨x, x1, y, y1, dx, dx', dy, dy', brightness, red, green, blue⟩ := range
  cases g with
  | rect => exact ⟨x, x1, y, y1⟩
  | offset => exact ⟨dx, dx', dy, dy'⟩
  | brightness => exact brightness
  | flat => exact ⟨red, green, blue⟩
  | _ => trivial

theorem WindowRec.write_all (r : WindowRec) : (FieldGroup.all.map r.read).foldl WindowRec.write .blank = r := by
  cases r; rfl

theorem WindowRec.bytes_length (r : WindowRec) : r.bytes.length = 22 := by
  unfold WindowRec.bytes
  rw [List.length_flatMap]
  have widths (g : FieldGroup) : (r.read g).bytes.length = g.width := by
    rw [FieldValue.bytes_length, WindowRec.read_group]
  simp only [widths]
  rfl

theorem readWindow_takes {r : WindowRec} (range : r.inRange) : readWindow.Takes r.bytes r := by
  refine chunk_takes r.bytes_length ?_
  have carried : ∀ g ∈ FieldGroup.all, Nat.testBit 511 g.number = true ∧ (r.read g).bytes.length = g.width :=
    fun g _ => ⟨by cases g <;> rfl, by rw [FieldValue.bytes_length, WindowRec.read_group]⟩
  have split : splitGroups 511 FieldGroup.all r.bytes = _ := splitGroups_bytes FieldGroup.all carried
  have values : everyOk ((FieldGroup.all.map fun g => (g, (r.read g).bytes)).map fun g => fieldValue g.1 g.2) =
      .ok (FieldGroup.all.map r.read) := by
    rw [List.map_map]
    refine everyOk_map _ fun g _ => ?_
    have value := fieldValue_bytes (WindowRec.read_inRange range g)
    rw [WindowRec.read_group] at value
    exact value
  rw [split, Option.bind_some, values]
  exact congrArg some r.write_all

/-! ### Patch records (12.5) -/

/-- The byte of an index that may be none (R191). -/
def noneByte {n : Nat} : Option (Fin n) → Byte
  | some i => BitVec.ofNat 8 i.val
  | none => 0xFF

theorem noneOr_noneByte {n : Nat} (small : n ≤ 255) (x : Option (Fin n)) : noneOr n (noneByte x) = .ok x := by
  cases x with
  | none => rfl
  | some i =>
    have other : BitVec.ofNat 8 i.val ≠ 0xFF := fun same => by
      have := congrArg BitVec.toNat same
      rw [byte_toNat (by omega)] at this
      have last : i.val = 255 := this
      omega
    unfold noneOr noneByte
    rw [if_neg other, index_ofNat (by omega)]
    rfl

theorem PatchRec.bytes_eq (p : PatchRec) : p.bytes =
    [noneByte p.line] ++ u16 p.slot ++ u8 p.width ++ flagByte p.fineFirst ++ u8 p.curve.code ++ u16 p.limit ++
      u8 p.group.val ++ [noneByte p.follow] ++ s16 p.gain ++ u16 p.reference ++ optional 2 u16 p.safety := by
  unfold PatchRec.bytes
  cases p.line <;> cases p.follow <;> rfl

/-- The last field group: the safety level and its presence byte. -/
theorem safety_bytes {x : Option Nat} (range : ∀ v, x = some v → v ≤ 65535) : ∃ a h l,
    optional 2 u16 x = [a, h, l] ∧ patchWrite 5 [a, h, l] = .ok fun p => { p with safety := x } := by
  cases x with
  | none => exact ⟨0, 0, 0, rfl, rfl⟩
  | some v =>
    refine ⟨1, _, _, rfl, ?_⟩
    have small := range v rfl
    rw [patchWrite, be16_of_u16 (by omega)]
    rfl

theorem splitPatch_all (a b c d e f g h i j k l m n o p q : Byte) :
    splitPatch 63 patchGroups [a, b, c, d, e, f, g, h, i, j, k, l, m, n, o, p, q] =
      some [(0, [a, b, c, d, e]), (1, [f]), (2, [g, h]), (3, [i]), (4, [j, k, l, m, n]), (5, [o, p, q])] := rfl

theorem patchWrite_slots {p : PatchRec} (range : p.inRange) :
    patchWrite 0 [noneByte p.line, BitVec.ofNat 8 (p.slot / 256), BitVec.ofNat 8 p.slot, BitVec.ofNat 8 p.width,
        if p.fineFirst then 1 else 0] =
      .ok fun q => { q with line := p.line, slot := p.slot, width := p.width, fineFirst := p.fineFirst } := by
  obtain ⟨low, high, width, -⟩ := range
  have wide : BitVec.ofNat 8 p.width = 1 ∨ BitVec.ofNat 8 p.width = 2 ∧ p.slot ≠ 512 := by
    rcases width with one | ⟨two, second⟩
    · exact .inl (congrArg (BitVec.ofNat 8) one)
    · exact .inr ⟨congrArg (BitVec.ofNat 8) two, by omega⟩
  have format : (BitVec.ofNat 8 p.width = 1 || BitVec.ofNat 8 p.width = 2) = true := by
    rcases wide with one | ⟨two, -⟩
    · rw [one]; rfl
    · rw [two]; rfl
  have fits : (decide (1 ≤ p.slot ∧ p.slot ≤ 512) && !(BitVec.ofNat 8 p.width = 2 && p.slot = 512)) = true := by
    rw [decide_eq_true ⟨low, high⟩]
    rcases wide with one | ⟨-, second⟩
    · rw [one]; rfl
    · rw [decide_eq_false second, Bool.and_false]; rfl
  have size : (BitVec.ofNat 8 p.width).toNat = p.width := byte_toNat (by omega)
  rw [patchWrite, be16_of_u16 (by omega), flag?_flagByte, noneOr_noneByte (by omega), fits, format, size]
  rfl

theorem patchWrite_follow {p : PatchRec} (range : p.inRange) :
    patchWrite 4 [noneByte p.follow, BitVec.ofNat 8 ((p.gain % 65536).toNat / 256), BitVec.ofNat 8 (p.gain % 65536).toNat,
        BitVec.ofNat 8 (p.reference / 256), BitVec.ofNat 8 p.reference] =
      .ok fun q => { q with follow := p.follow, gain := p.gain, reference := p.reference } := by
  obtain ⟨-, -, -, -, low, high, reference, -⟩ := range
  rw [patchWrite, be16_of_u16 (by omega), be16s_of_s16 (by omega) (by omega), noneOr_noneByte (by omega),
    clampInt_within low high, clampNat_within (by omega) reference]
  rfl

theorem PatchRec.bytes_length (p : PatchRec) : p.bytes.length = 17 := by
  rw [PatchRec.bytes_eq]
  cases p.safety <;> rfl

theorem readPatch_takes {p : PatchRec} (range : p.inRange) : readPatch.Takes p.bytes p := by
  refine chunk_takes p.bytes_length ?_
  have slots := patchWrite_slots range
  have follow := patchWrite_follow range
  obtain ⟨-, -, -, limit, -, -, -, safe⟩ := range
  obtain ⟨a, h, l, safety, safetyWrite⟩ := safety_bytes safe
  have curve : patchWrite 1 [BitVec.ofNat 8 p.curve.code] = .ok fun q => { q with curve := p.curve } := by
    rw [patchWrite, outCurve?_code]
    rfl
  have limits : patchWrite 2 [BitVec.ofNat 8 (p.limit / 256), BitVec.ofNat 8 p.limit] =
      .ok fun q => { q with limit := p.limit } := by
    rw [patchWrite, be16_of_u16 (by omega)]
  have group : patchWrite 3 [BitVec.ofNat 8 p.group.val] = .ok fun q => { q with group := p.group } := by
    rw [patchWrite, index_ofNat (by decide)]
    rfl
  have bytes : p.bytes = [noneByte p.line, BitVec.ofNat 8 (p.slot / 256), BitVec.ofNat 8 p.slot,
      BitVec.ofNat 8 p.width, if p.fineFirst then 1 else 0, BitVec.ofNat 8 p.curve.code,
      BitVec.ofNat 8 (p.limit / 256), BitVec.ofNat 8 p.limit, BitVec.ofNat 8 p.group.val, noneByte p.follow,
      BitVec.ofNat 8 ((p.gain % 65536).toNat / 256), BitVec.ofNat 8 (p.gain % 65536).toNat,
      BitVec.ofNat 8 (p.reference / 256), BitVec.ofNat 8 p.reference, a, h, l] := by
    rw [PatchRec.bytes_eq, safety]
    rfl
  rw [bytes, splitPatch_all]
  simp only [Option.bind_some, List.map_cons, List.map_nil]
  rw [slots, curve, limits, group, follow, safetyWrite]
  rfl

end Sys2Proof.Machine
end

section
/-! PROOF. The tables of an image, read back from their bytes (R185). -/

namespace Sys2Proof.Machine

/-! ### Records of one chunk -/

theorem oneByte_takes {α : Type} {f : Byte → Option α} {b : Byte} {a : α} (value : f b = some a) :
    (oneByte f).Takes [b] a :=
  chunk_takes rfl value

theorem readShot_takes (e : ShotEntry) : readShot.Takes e.bytes e := by
  refine chunk_takes rfl ?_
  change some (⟨be32 _ _ _ _, BitVec.ofNat 16 (be16 _ _)⟩ : ShotEntry) = _
  rw [be32_of_u32, be16_of_u16 e.groups.isLt, BitVec.ofNat_toNat, BitVec.ofNat_toNat, BitVec.setWidth_eq,
    BitVec.setWidth_eq]

theorem readRoute_takes (r : PortSet) : (oneByte fun b => some (BitVec.ofNat 4 b.toNat)).Takes (u8 r.toNat) r := by
  refine oneByte_takes ?_
  have small := r.isLt
  rw [byte_toNat (by omega), BitVec.ofNat_toNat, BitVec.setWidth_eq]

theorem readLine_takes {l : Bool × Nat × Nat} (slots : 24 ≤ l.2.1 ∧ l.2.1 ≤ 512) (breaks : 88 ≤ l.2.2 ∧ l.2.2 ≤ 1000) :
    readLine.Takes (lineBytes l) l := by
  refine chunk_takes rfl ?_
  change (flag? _).map (fun e => (e, clampNat 24 512 (be16 _ _), clampNat 88 1000 (be16 _ _))) = _
  rw [flag?_flagByte, be16_of_u16 (by omega), be16_of_u16 (by omega), clampNat_within slots.1 slots.2,
    clampNat_within breaks.1 breaks.2]
  rfl

theorem WallLink.setRect_within {k : WallLink} (range : k.inRange) (x : WallLink) :
    x.setRect k.x k.y k.width k.height = { x with x := k.x, y := k.y, width := k.width, height := k.height } := by
  obtain ⟨left, top, width, fits, height, fits', -⟩ := range
  unfold WallLink.setRect
  dsimp only
  rw [clampNat_within (Nat.zero_le _) left, clampNat_within (Nat.zero_le _) top, clampNat_within width fits,
    clampNat_within height fits']

theorem readLink_takes {k : WallLink} (range : k.inRange) : readLink.Takes k.bytes k := by
  refine chunk_takes rfl ?_
  have rect := WallLink.setRect_within range .blank
  obtain ⟨left, top, width, fits, height, fits', bright⟩ := range
  change (flag? _).map (fun e => ({ WallLink.blank.setRect (be16 _ _) (be16 _ _) (be16 _ _) (be16 _ _) with
    brightness := clampNat 0 256 (be16 _ _), enabled := e } : WallLink)) = _
  rw [flag?_flagByte, be16_of_u16 (by omega), be16_of_u16 (by omega), be16_of_u16 (by omega), be16_of_u16 (by omega),
    be16_of_u16 (by omega), clampNat_within (Nat.zero_le _) bright, rect]
  rfl

theorem readHold_takes {h : Nat} (range : h ≤ 255) : readHold.Takes (u16 h) h := by
  refine chunk_takes rfl ?_
  change some (clampNat 0 255 (be16 _ _)) = _
  rw [be16_of_u16 (by omega), clampNat_within (Nat.zero_le _) range]

theorem readSet_takes {t : TransitionSet} (low : 1 ≤ t.duration) (high : t.duration ≤ 255) : readSet.Takes t.bytes t := by
  refine chunk_takes rfl ?_
  change (curve? _).map (fun c => (⟨clampNat 1 255 (be16 _ _), c⟩ : TransitionSet)) = _
  rw [curve?_code, be16_of_u16 (by omega), clampNat_within low high]
  rfl

theorem readTiming_takes {t : TimingValues} (grace : t.lateGrace ≤ 65535) (low : 1 ≤ t.timeout)
    (high : t.timeout ≤ 65535) (fade : t.safetyFade ≤ 65535) (wall : t.safetyWall ≤ 256) :
    readTiming.Takes t.bytes t := by
  refine chunk_takes rfl ?_
  change (rate? _).map (fun r => (⟨r, be16 _ _, clampNat 1 65535 (be16 _ _), be16 _ _, clampNat 0 256 (be16 _ _)⟩ :
    TimingValues)) = _
  rw [rate?_code, be16_of_u16 (by omega), be16_of_u16 (by omega), be16_of_u16 (by omega), be16_of_u16 (by omega),
    clampNat_within low high, clampNat_within (Nat.zero_le _) wall]
  rfl

theorem readPort_takes (x : PortRole × LineRate) : readPort.Takes (u8 x.1.code ++ u8 x.2.code) x := by
  refine chunk_takes rfl ?_
  change (portRole? _).bind (fun r => (lineRate? _).map fun s => (r, s)) = _
  rw [portRole?_code, lineRate?_code]
  rfl

theorem readChannel_takes {c : ChannelRec} (range : c.inRange) : readChannel.Takes c.bytes c := by
  refine chunk_takes rfl ?_
  obtain ⟨level, fade⟩ := range
  change (curve? _).map (fun x => (⟨be16 _ _, be16 _ _, x⟩ : ChannelRec)) = _
  rw [curve?_code, be16_of_u16 (by omega), be16_of_u16 (by omega)]
  rfl

theorem readFill_takes {c : RGB} (range : c.r ≤ 255 ∧ c.g ≤ 255 ∧ c.b ≤ 255) : readFill.Takes c.bytes c := by
  refine chunk_takes rfl ?_
  obtain ⟨red, green, blue⟩ := range
  change some (⟨(BitVec.ofNat 8 c.r).toNat, (BitVec.ofNat 8 c.g).toNat, (BitVec.ofNat 8 c.b).toNat⟩ : RGB) = _
  rw [byte_toNat (by omega), byte_toNat (by omega), byte_toNat (by omega)]

theorem readCount_takes {n : Nat} (small : n < 65536) : readCount.Takes (u16 n) n := by
  refine chunk_takes rfl ?_
  change some (be16 _ _) = _
  rw [be16_of_u16 small]

theorem readLevel_takes {l : Nat} (low : 1 ≤ l) (high : l ≤ 7) :
    (oneByte fun x => some (clampNat 1 7 x.toNat)).Takes (u8 l) l := by
  refine oneByte_takes ?_
  rw [byte_toNat (by omega), clampNat_within low high]

/-! ### Tables -/

theorem forall_mem_toList {α : Type} {n : Nat} {v : Vector α n} {P : α → Prop} (each : ∀ i : Fin n, P v[i]) :
    ∀ a ∈ v.toList, P a := by
  intro a there
  obtain ⟨i, inside, is⟩ := List.getElem_of_mem there
  rw [Vector.length_toList] at inside
  rw [Vector.getElem_toList] at is
  exact is ▸ each ⟨i, inside⟩

/-- A table whose every entry reads back. -/
theorem table_takes_each {α : Type} {n : Nat} {r : Reader α} {write : α → List Byte} {v : Vector α n}
    (each : ∀ i : Fin n, r.Takes (write v[i]) v[i]) : (table n r).Takes (v.toList.flatMap write) v :=
  table_takes v (forall_mem_toList each)

theorem readBank_takes {b : Bank} (range : b.inRange) : readBank.Takes b.bytes b := by
  obtain ⟨windows, fill, channels⟩ := range
  have first := table_takes_each (write := WindowRec.bytes) fun i => readWindow_takes (windows i)
  have last := table_takes_each (write := ChannelRec.bytes) fun i => readChannel_takes (channels i)
  intro rest
  unfold Bank.bytes
  rw [List.append_assoc, List.append_assoc]
  refine (bind_some_of (first _)).trans ?_
  refine (bind_some_of (readFill_takes fill _)).trans ?_
  exact (bind_some_of (last _)).trans rfl

theorem tab_toList {α : Type} {n : Nat} (f : Fin n → α) : (tab f).toList = (List.finRange n).map f := rfl

theorem readPorts_takes (roles : Vector PortRole 4) (rates : Vector LineRate 4) :
    (table 4 readPort).Takes (portBytes roles rates) (tab fun p => (roles[p], rates[p])) := by
  have read := table_takes (write := fun x : PortRole × LineRate => u8 x.1.code ++ u8 x.2.code)
    (tab fun p => (roles[p], rates[p])) fun x _ => readPort_takes x
  rw [tab_toList, List.flatMap_map] at read
  exact read

theorem mapTab_tab {α β : Type} {n : Nat} (f : α → β) (g : Fin n → α) (v : Vector β n) (same : ∀ i : Fin n, f (g i) = v[i]) :
    mapTab f (tab g) = v := by
  refine Vector.ext fun i inside => ?_
  simpa using same ⟨i, inside⟩

end Sys2Proof.Machine
end

section
/-! PROOF. The cue records of an image, read back from their bytes (R89 to R91, 12.6). -/

namespace Sys2Proof.Machine

/-! ### Actions (12.6) -/

theorem action_level {role : BankRole} {first last : ChannelNo} {v d : Nat} (order : first ≤ last) (level : v ≤ 65535)
    (fade : d ≤ 65535) : action (Action.bytes (.level role first last v d)) = .ok (.level role first last v d) := by
  change action [1, BitVec.ofNat 8 role.code, BitVec.ofNat 8 (first.val / 256), BitVec.ofNat 8 first.val,
    BitVec.ofNat 8 (last.val / 256), BitVec.ofNat 8 last.val, BitVec.ofNat 8 (v / 256), BitVec.ofNat 8 v,
    BitVec.ofNat 8 (d / 256), BitVec.ofNat 8 d, 0, 0] = _
  have ordered : (allZero [0, 0] && decide (first.val ≤ last.val)) = true := by
    rw [decide_eq_true (show first.val ≤ last.val from order)]; rfl
  unfold action
  dsimp only
  rw [if_pos rfl, be16_of_u16 (by omega), be16_of_u16 (by omega), be16_of_u16 (by omega), be16_of_u16 (by omega),
    index_of_lt first rfl, index_of_lt last rfl, bankRole?_code, ordered]
  rfl

/-- A WINDOW action reads the value at the width of its field group. -/
theorem action_window {role : BankRole} {w : WindowNo} {v : FieldValue} (range : v.inRange) :
    action (Action.bytes (.window role w v)) = .ok (.window role w v) := by
  have width := v.bytes_length
  have small : v.group.width ≤ 8 := by cases v.group <;> decide
  have fill : 12 - (u8 2 ++ u8 role.code ++ u8 w.val ++ u8 v.group.number ++ v.bytes).length = 8 - v.group.width := by
    rw [List.length_append, width]
    change 12 - (4 + v.group.width) = _
    omega
  have bytes : Action.bytes (.window role w v) = 2 :: BitVec.ofNat 8 role.code :: BitVec.ofNat 8 w.val ::
      BitVec.ofNat 8 v.group.number :: (v.bytes ++ List.replicate (8 - v.group.width) 0) := by
    unfold Action.bytes
    dsimp only
    rw [fill]
    rfl
  have eight : (v.bytes ++ List.replicate (8 - v.group.width) 0).length = 8 := by
    rw [List.length_append, List.length_replicate, width]
    omega
  have value := fieldValue_bytes range
  have taken : (v.bytes ++ List.replicate (8 - v.group.width) 0).take v.group.width = v.bytes := List.take_left' width
  have rest : allZero ((v.bytes ++ List.replicate (8 - v.group.width) 0).drop v.group.width) = true := by
    rw [List.drop_left' width]
    simp [allZero]
  rw [bytes]
  generalize v.bytes ++ List.replicate (8 - v.group.width) 0 = l at eight taken rest
  obtain ⟨a, b, c, d, e, f, g, h, rfl⟩ : ∃ a b c d e f g h, l = [a, b, c, d, e, f, g, h] := by
    match l, eight with
    | [a, b, c, d, e, f, g, h], _ => exact ⟨a, b, c, d, e, f, g, h, rfl⟩
  unfold action
  dsimp only
  rw [if_neg (by decide), if_pos rfl, fieldGroup?_number]
  dsimp only
  rw [rest, taken, value, bankRole?_code, index_ofNat (by decide)]
  rfl

theorem action_master {g : GroupNo} {v : Nat} (range : v ≤ 256) :
    action (Action.bytes (.master g v)) = .ok (.master g v) := by
  change action [3, 0, BitVec.ofNat 8 g.val, BitVec.ofNat 8 (v / 256), BitVec.ofNat 8 v, 0, 0, 0, 0, 0, 0, 0] = _
  unfold action
  dsimp only
  rw [if_neg (by decide), if_neg (by decide), if_pos rfl, index_ofNat (by decide), be16_of_u16 (by omega),
    clampNat_within (Nat.zero_le _) range]
  rfl

theorem action_take (n : SetNo) : action (Action.bytes (.take n)) = .ok (.take n) := by
  change action [4, 0, BitVec.ofNat 8 n.val, 0, 0, 0, 0, 0, 0, 0, 0, 0] = _
  unfold action
  dsimp only
  rw [if_neg (by decide), if_neg (by decide), if_neg (by decide), if_pos rfl, index_ofNat (by decide)]
  rfl

theorem action_goStack (k : StackNo) : action (Action.bytes (.goStack k)) = .ok (.goStack k) := by
  change action [6, 0, BitVec.ofNat 8 k.val, 0, 0, 0, 0, 0, 0, 0, 0, 0] = _
  unfold action
  dsimp only
  rw [if_neg (by decide), if_neg (by decide), if_neg (by decide), if_neg (by decide), if_neg (by decide), if_pos rfl,
    index_ofNat (by decide)]
  rfl

/-- An action in its ranges reads back from its twelve bytes. -/
theorem action_bytes {a : Action} (range : a.inRange) : action a.bytes = .ok a := by
  cases a with
  | level role first last v d => exact action_level range.1 range.2.1 range.2.2
  | window role w v => exact action_window range
  | master g v => exact action_master range
  | take n => exact action_take n
  | copy => rfl
  | goStack k => exact action_goStack k

theorem Action.bytes_length (a : Action) : a.bytes.length = 12 := by
  cases a with
  | window role w v =>
    have width := v.bytes_length
    have small : v.group.width ≤ 8 := by cases v.group <;> decide
    unfold Action.bytes
    dsimp only
    rw [List.length_append, List.length_replicate, List.length_append, width]
    change 4 + v.group.width + (12 - (4 + v.group.width)) = 12
    omega
  | _ => rfl

/-! ### Cue records -/

theorem flatMap_length {α : Type} {l : List α} {write : α → List Byte} {width : Nat}
    (each : ∀ a ∈ l, (write a).length = width) : (l.flatMap write).length = width * l.length := by
  induction l with
  | nil => rfl
  | cons a l ih =>
    rw [List.flatMap_cons, List.length_append, each a List.mem_cons_self,
      ih fun b there => each b (List.mem_cons_of_mem _ there), List.length_cons]
    ring

theorem twelves_bytes (l : List Action) : twelves l.length (l.flatMap Action.bytes) = l.map Action.bytes := by
  induction l with
  | nil => rfl
  | cons a l ih =>
    rw [List.length_cons, List.flatMap_cons, twelves, List.take_left' a.bytes_length, List.drop_left' a.bytes_length, ih]
    rfl

theorem CueBody.bytes_eq (c : CueBody) : c.bytes = BitVec.ofNat 8 c.trigger.code :: BitVec.ofNat 8 (c.wait / 256) ::
    BitVec.ofNat 8 c.wait :: BitVec.ofNat 8 c.repeats :: BitVec.ofNat 8 c.interval :: BitVec.ofNat 8 c.marker.code ::
    BitVec.ofNat 8 c.loopCount :: (if c.release then 1 else 0) :: BitVec.ofNat 8 (c.releaseFade / 256) ::
    BitVec.ofNat 8 c.releaseFade :: BitVec.ofNat 8 c.actions.length :: c.actions.flatMap Action.bytes := rfl

theorem CueBody.bytes_length (c : CueBody) : c.bytes.length = 11 + 12 * c.actions.length := by
  rw [CueBody.bytes_eq]
  simp only [List.length_cons, flatMap_length fun a (_ : a ∈ c.actions) => a.bytes_length]
  omega

theorem cueBody_bytes {q : Cue} (range : q.inRange) : cueBody q.body.bytes = .ok q.body := by
  obtain ⟨-, -, wait, repeats, interval, loops, fade, one, sixteen, actions⟩ := range
  have count : (BitVec.ofNat 8 q.body.actions.length).toNat = q.body.actions.length := byte_toNat (by omega)
  have fits : (decide (q.body.actions.length = 0) || decide (16 < q.body.actions.length) ||
      decide ((q.body.actions.flatMap Action.bytes).length ≠ 12 * q.body.actions.length)) = false := by
    rw [flatMap_length fun a (_ : a ∈ q.body.actions) => a.bytes_length]
    simp only [ne_eq, not_true_eq_false, decide_false, Bool.or_false, Bool.or_eq_false_iff, decide_eq_false_iff_not]
    omega
  have acts : everyOk ((q.body.actions.map Action.bytes).map action) = .ok q.body.actions := by
    rw [List.map_map]
    have each := everyOk_map (f := action ∘ Action.bytes) (g := id) q.body.actions fun a there => action_bytes (actions a there)
    exact each.trans (congrArg Except.ok (List.map_id _))
  rw [CueBody.bytes_eq]
  unfold cueBody
  dsimp only
  rw [count, if_neg (ne_true_of_eq_false fits), twelves_bytes, acts, trigger?_code, marker?_code, flag?_flagByte,
    be16_of_u16 (by omega), be16_of_u16 (by omega), byte_toNat (by omega), byte_toNat (by omega), byte_toNat (by omega)]
  rfl

theorem readCue_takes {q : Cue} (range : q.inRange) : readCue.Takes q.bytes q := by
  have body := cueBody_bytes range
  obtain ⟨low, high, -, -, -, -, -, -, sixteen, -⟩ := range
  have count : (BitVec.ofNat 8 q.body.actions.length).toNat = q.body.actions.length := byte_toNat (by omega)
  have value : (cueBody q.body.bytes).toOption = some q.body := by rw [body]; rfl
  have length : q.body.bytes.length = 11 + 12 * (BitVec.ofNat 8 q.body.actions.length).toNat := by
    rw [count, CueBody.bytes_length]
  have taken := chunk_takes (f := fun l => (cueBody l).toOption) length value
  intro rest
  have tenth : (q.body.bytes ++ rest)[10]? = some (BitVec.ofNat 8 q.body.actions.length) := by
    rw [CueBody.bytes_eq]
    rfl
  have number : be16 (BitVec.ofNat 8 (q.number / 256)) (BitVec.ofNat 8 q.number) = q.number := be16_of_u16 (by omega)
  have stack : (index 8 (BitVec.ofNat 8 q.stack.val).toNat).toOption = some q.stack := by
    rw [index_ofNat (by decide)]
    rfl
  change readCue (BitVec.ofNat 8 q.stack.val :: BitVec.ofNat 8 (q.number / 256) :: BitVec.ofNat 8 q.number ::
    (q.body.bytes ++ rest)) = _
  unfold readCue
  dsimp only
  rw [tenth, stack, number]
  dsimp only
  rw [if_pos ⟨low, high⟩, taken rest]
  rfl

end Sys2Proof.Machine
end

section
/-! PROOF. O58: a lawful body in its ranges fits the store and loads back from its image (R185, R186). -/

namespace Sys2Proof.Machine

/-! ### The length of a body -/

theorem table_length {α : Type} {n width : Nat} (v : Vector α n) {write : α → List Byte}
    (each : ∀ a, (write a).length = width) : (v.toList.flatMap write).length = width * n := by
  rw [flatMap_length fun a _ => each a, Vector.length_toList]

theorem Bank.bytes_length (b : Bank) : b.bytes.length = 5827 := by
  unfold Bank.bytes
  rw [List.length_append, List.length_append, table_length _ WindowRec.bytes_length,
    table_length (write := ChannelRec.bytes) (width := 5) _ fun _ => rfl]
  rfl

theorem Cue.bytes_length (q : Cue) : q.bytes.length = 14 + 12 * q.body.actions.length := by
  unfold Cue.bytes
  rw [List.length_append, CueBody.bytes_length]
  change 3 + (11 + 12 * q.body.actions.length) = _
  omega

theorem store_length (l : List Cue) :
    (l.flatMap Cue.bytes).length = 14 * l.length + 12 * (l.map fun q => q.body.actions.length).sum := by
  induction l with
  | nil => rfl
  | cons q l ih =>
    rw [List.flatMap_cons, List.length_append, ih, q.bytes_length, List.length_cons, List.map_cons, List.sum_cons]
    ring

theorem ImageBody.lawful_store {b : ImageBody} (lawful : b.lawful = true) :
    b.store.length ≤ 1024 ∧ (b.store.map fun q => q.body.actions.length).sum ≤ 4096 := by
  unfold ImageBody.lawful at lawful
  simp only [Bool.and_eq_true, decide_eq_true_eq] at lawful
  obtain ⟨⟨-, records⟩, slots⟩ := lawful
  exact ⟨records, slots⟩

theorem ImageBody.bytes_length {b : ImageBody} (lawful : b.lawful = true) : b.bytes.length ≤ 131072 := by
  obtain ⟨records, slots⟩ := ImageBody.lawful_store lawful
  have ports : (portBytes b.roles b.rates).length = 8 := rfl
  have timing : b.timing.bytes.length = 9 := rfl
  have one (n : Nat) : (u8 n).length = 1 := rfl
  have two (n : Nat) : (u16 n).length = 2 := rfl
  unfold ImageBody.bytes
  simp only [List.length_append, ports, timing, one, two, Bank.bytes_length, store_length,
    table_length _ PatchRec.bytes_length, table_length (write := ShotEntry.bytes) (width := 6) _ fun _ => rfl,
    table_length (write := fun g : Guard => u8 g.code) (width := 1) _ fun _ => rfl,
    table_length (write := fun r : PortSet => u8 r.toNat) (width := 1) _ fun _ => rfl,
    table_length (write := lineBytes) (width := 5) _ fun _ => rfl,
    table_length (write := WallLink.bytes) (width := 11) _ fun _ => rfl,
    table_length (write := TransitionSet.bytes) (width := 3) _ fun _ => rfl,
    table_length (write := u16) (width := 2) _ fun _ => rfl, table_length (write := u8) (width := 1) _ fun _ => rfl]
  omega

/-! ### The body -/

/-- A body in its ranges reads back from its bytes. -/
theorem readBody_inRange {b : ImageBody} (range : b.inRange) (records : b.store.length ≤ 1024) :
    readBody b.bytes = some (b, []) := by
  obtain ⟨patch, lines, links, holds, sets, ⟨grace, timeout, timeout', fade, wall⟩, bankA, bankB, store, levels⟩ := range
  exact readBody_bytes b (tab fun p => (b.roles[p], b.rates[p]))
    (table_takes_each fun n => readPatch_takes (patch n))
    (table_takes_each fun i => readShot_takes _)
    (table_takes_each fun w => oneByte_takes (guard?_code _))
    (table_takes_each fun g => oneByte_takes (guard?_code _))
    (table_takes_each fun a => readRoute_takes _)
    (table_takes_each fun l =>
      have ⟨low, high, low', high'⟩ := lines l
      readLine_takes ⟨low, high⟩ ⟨low', high'⟩)
    (table_takes_each fun k => readLink_takes (links k))
    (table_takes_each fun p => readHold_takes (holds p))
    (table_takes_each fun n => readSet_takes (sets n).1 (sets n).2)
    (readTiming_takes grace timeout timeout' fade wall)
    (readPorts_takes b.roles b.rates)
    (mapTab_tab Prod.fst _ _ fun _ => rfl) (mapTab_tab Prod.snd _ _ fun _ => rfl)
    (readBank_takes bankA) (readBank_takes bankB)
    (oneByte_takes (bankName?_code _))
    (readCount_takes (by omega))
    (many_takes b.store fun q there => readCue_takes (store q there))
    (table_takes_each fun k => readLevel_takes (levels k).1 (levels k).2)

/-- Settles O58: every item of the body reads back from the bytes that are written for it, and the body fits the store. -/
theorem savedImagesLoad : Obligations.SavedImagesLoad := by
  unfold Obligations.SavedImagesLoad
  intro b range lawful
  have read := readBody_inRange range (ImageBody.lawful_store lawful).1
  exact (loadImage_image b (ImageBody.bytes_length lawful)).trans (goodBody_bytes b read lawful)

end Sys2Proof.Machine
end
